-- ==== Sys2Proof/Word.lean ====
section
/-! DEFINITION. The word types of the block: bytes (00_scope R13: "A byte is 8 bits") and the 16-bit values of
its wide registers. -/

namespace Sys2Proof

/-- A byte: one host access, one transport operation, one buffer cell (R13, R61, R74). -/
abbrev Byte := BitVec 8

/-- A 16-bit register or CRC value (10_state R28 to R39). -/
abbrev Half := BitVec 16

end Sys2Proof
end

