-- ==== Sys2Proof/Config.lean ====
section
/-! DEFINITION. The fixed constants (00_scope R7), the implementation parameters (R8 to R11) and the
uninterpreted values the spec leaves open. -/

namespace Sys2Proof

/-- The four parameters of the block, "a parameter the model takes as an argument" (R8 to R11). They stand in
`State.par`, which no step changes, so that a statement about every state is one about every parameter (log 5). -/
structure Params where
  /-- N_DISCARD (R8): bytes other than ACK and NAK discarded before a NAK is sent. -/
  nDiscard : Nat
  /-- NAK_ROUNDS_MAX (R9): `none` is UNBOUNDED, `some k` one of 0..254. -/
  nakRoundsMax : Option (Fin 255)
  /-- RX_LEN_STRICT (R10). -/
  rxLenStrict : Bool
  /-- REASM_CAP (R11): capacity of RX_BUF in bytes, at most 65535. -/
  reasmCap : Half
deriving DecidableEq, Repr

namespace Config

/-- STP, the start marker of every frame (R7, R81). -/
def stp : Byte := 0xEE#8

/-- ACK, the link acknowledgement (R7, R90). -/
def ack : Byte := 0x06#8

/-- NAK, the link negative acknowledgement (R7, R90). -/
def nak : Byte := 0x15#8

/-- IDENT, the identity byte the engine transmits (R7, R82). -/
def ident : Byte := 0x00#8

/-- MAXDATA, the largest length field value (R7). -/
def maxData : Nat := 8183

/-- HDR_LEN, header bytes of a frame (R7). -/
def hdrLen : Nat := 6

/-- CRC_LEN, trailer bytes of a frame (R7). -/
def crcLen : Nat := 2

/-- TXCAP = MAXDATA - 1, the largest payload after the service code and the size of TX_BUF (R7, R30). -/
def txCap : Nat := 8182

/-- UNVERIFIED (log 5). N_DISCARD less one: R8 gives no value, only `N_DISCARD >= 1`. -/
opaque nDiscardPred : Nat

/-- UNVERIFIED (log 5). NAK_ROUNDS_MAX: R9 gives its range and no value. -/
opaque nakRoundsMax : Option (Fin 255)

/-- DESIGN CHOICE (log 5). The parameters the machine after reset holds: the OPEN ones uninterpreted, the other
two at the defaults of R10 and R11. -/
def params : Params := ⟨nDiscardPred + 1, nakRoundsMax, true, 65535#16⟩

/-- DESIGN CHOICE (log 7). The byte of RX_BUF at an index the engine has never written, which R31 leaves
unspecified: a free value. -/
opaque rxBufUnwritten : Nat → Byte

end Config

/-- The ranges R8 to R11 give the parameters. -/
def Params.ok (p : Params) : Bool := decide (1 ≤ p.nDiscard) && decide (Config.maxData ≤ p.reasmCap.toNat)

end Sys2Proof
end

