-- ==== Sys2Proof/Machine/State.lean ====
section
/-! DEFINITION. The machine's state, whole (10_state R20 to R43), and the state after reset (70_reset R280, R281).
What a register holds is stored once; STAT, FLAGS2, CRC_RES, TCK_RES and `irq` are functions of it (Machine/Flags.lean). -/

namespace Sys2Proof.Machine

/-- The sequencer states (R42). Codes 9..15 "are never taken". -/
inductive SeqState where
  | idle
  | send
  | awaitAck
  | sendNak
  | readHeader
  | readBody
  | readCrc
  | validate
  | sendAck
deriving DecidableEq, Repr

/-- The error codes an exchange can end with (60_exceptions R250). -/
inductive ErrorCode where
  | ioError
  | timeout
  | badFraming
  | crcMismatch
  | noAck
  | lengthError
  | overflow
deriving DecidableEq, Repr

/-- A buffer's contents: (index, byte) pairs, indices strictly rising. An index not listed has never been written
since reset ("unwritten", 70_reset R282), so it reads as no value and no entry can equal it. -/
abbrev Memory := List Host.Cell

/-- HDR0..HDR5 (R36). -/
structure Header where
  h0 : Byte
  h1 : Byte
  h2 : Byte
  h3 : Byte
  h4 : Byte
  h5 : Byte
deriving DecidableEq, Repr

/-- HDR0..HDR5 all 0x00, as at reset and when an EXCHANGE is accepted (R36). -/
def Header.zero : Header := ⟨0#8, 0#8, 0#8, 0#8, 0#8, 0#8⟩

/-- Which agent makes the next step (00_scope R15): the host, the engine, or the environment asserting `rst`. -/
inductive Turn where
  | host
  | engine
  | reset
deriving DecidableEq, Repr

/-- One access of the host, as the bus ports carry it (R43): `wr a d` with `we`, `rd a` with `re`; `svc b` is the host
placing a service code in SVC (30_encoding R92). -/
inductive HostAccess where
  | wr (a d : Byte)
  | rd (a : Byte)
  | svc (b : Byte)
deriving DecidableEq, Repr

/-- The transport's answer to a transmit (20_memory R74). -/
inductive TxAnswer where
  | ok
  | ioErr
deriving DecidableEq, Repr

/-- The transport's answer to a receive (20_memory R74). -/
inductive RxAnswer where
  | byte (b : Byte)
  | timeout
  | ioErr
deriving DecidableEq, Repr

/-- The environment: the free draws of R15 and R74 as plain data (log 1 to 4). The transport and the host "are not
part of the block's state" (70_reset R283); a reset leaves them alone. -/
structure Env where
  /-- Which agent moves next, the first first. -/
  turns : List Turn
  /-- The accesses the host will make, in program order (20_memory R70). -/
  hostQ : List HostAccess
  /-- The transport's answers to the transmits to come. -/
  txQ : List TxAnswer
  /-- The transport's answers to the receives to come: what it holds stays with it until the engine asks (R74). -/
  rxQ : List RxAnswer
  /-- The bytes the transport has accepted from the engine, oldest first. -/
  line : List Byte
deriving DecidableEq, Repr

/-- No turn, access or answer to come, and nothing transmitted. -/
def Env.empty : Env := ⟨[], [], [], [], []⟩

/-- The machine: every register, buffer and internal sequencer register of 10_state, then the model's own fields. -/
structure State where
  -- session and outcome (R21 to R25)
  ctrlBit : Bool
  done : Bool
  err : Bool
  statusValid : Bool
  rejected : Bool
  moreLast : Bool
  errCode : Byte
  status : Byte
  irqEn : Bool
  -- request (R26 to R30)
  seq : Byte
  svc : Byte
  txPlen : Half
  txPtr : Half
  txBuf : Memory
  -- response (R31 to R37)
  rxBuf : Memory
  rxLen : Half
  rxPtr : Half
  fragCnt : Byte
  nakCnt : Byte
  hdr : Header
  rxCrc : Half
  calcCrc : Half
  -- sticky host-side flags (R38)
  ign : Bool
  txOvf : Bool
  rxUnf : Bool
  -- checksum units (R39, R40)
  crcAcc : Half
  crcChk : Half
  tckSum : Byte
  -- internal sequencer registers (R41, R42)
  txIdx : BitVec 14
  discCnt : Nat
  nakRounds : Byte
  hdrIdx : Nat
  fragLen : Half
  bodyIdx : Half
  crcIdx : Nat
  rxAcc : Half
  more : Bool
  ackFinal : Bool
  st : SeqState
  -- host bus port rdata (R43, log 9)
  rdata : Byte
  -- the model's own fields: the parameters (log 5) and the environment (log 1 to 4)
  par : Params
  env : Env
deriving DecidableEq, Repr

/-- Why the model stops. The block itself never stops: its errors are next states (60_exceptions R251). -/
inductive Fault where
  /-- The encoder read TX_BUF at `i`, a byte no TX_DATA write has stored since reset: "the model faults" (70_reset
  R282). Raised by TX_FRAME. Safe: the hardware would send some byte. -/
  | txByteUnwritten (i : Nat)
  /-- The encoder read TX_BUF at `i >= 8182`, where `MemRead` is not defined (20_memory R60). Raised by TX_FRAME, in no
  state that meets the invariant. Safe (log 8). -/
  | txBufRange (i : Nat)
  /-- State SEND with `tx_idx = i` past the end of TxFrame (R41, R164). Raised by TX_FRAME, in no state that meets the
  invariant. Safe (log 8). -/
  | txIdxRange (i : Nat)
  /-- The engine wrote RX_BUF at `i >= REASM_CAP`, where `MemWrite` is not defined (20_memory R60). Raised by RX_FRAME,
  in no state that meets the invariant. Safe (log 8). -/
  | rxBufRange (i : Nat)
deriving DecidableEq, Repr

/-- Why the model gives an instruction no meaning. -/
inductive Refusal where
  /-- The instruction's arm of `exec` has no meaning yet; no arm is left so. Safe. -/
  | notModelled (mnemonic : String)
deriving DecidableEq, Repr

/-- What a step answers. -/
abbrev Result := Host.Outcome State Fault Refusal

/-- The machine right after reset (R280, R281). TX_BUF has every byte unwritten; the values of `rdata`, `rxBuf`,
`par` and `env` are the model's choices (log 9, 7, 5, 1 to 4). -/
def State.reset : State where
  ctrlBit := false
  done := false
  err := false
  statusValid := false
  rejected := false
  moreLast := false
  errCode := 0x00#8
  status := 0x00#8
  irqEn := false
  seq := 0x00#8
  svc := 0x00#8
  txPlen := 0x0000#16
  txPtr := 0x0000#16
  txBuf := []
  rxBuf := []
  rxLen := 0x0000#16
  rxPtr := 0x0000#16
  fragCnt := 0x00#8
  nakCnt := 0x00#8
  hdr := Header.zero
  rxCrc := 0x0000#16
  calcCrc := 0x0000#16
  ign := false
  txOvf := false
  rxUnf := false
  crcAcc := 0xFFFF#16
  crcChk := 0x0000#16
  tckSum := 0x00#8
  txIdx := 0#14
  discCnt := 0
  nakRounds := 0x00#8
  hdrIdx := 0
  fragLen := 0x0000#16
  bodyIdx := 0x0000#16
  crcIdx := 0
  rxAcc := 0x0000#16
  more := false
  ackFinal := false
  st := .idle
  rdata := 0x00#8
  par := Config.params
  env := Env.empty

end Sys2Proof.Machine
end

