-- ==== Sys2Proof/Machine/Operands.lean ====
section
/-! DEFINITION. The operand forms: the two bytes of a 16-bit register (20_memory R62), the fields of a header
(41_framer R135), the byte order of the wire (20_memory R63), the codes of states and errors (R42, R250). -/

namespace Sys2Proof.Machine

/-- Bits 7..0 of a 16-bit register, at the lower address (`_LO`, R62). -/
def lo (v : Half) : Byte := v.extractLsb' 0 8

/-- Bits 15..8 of a 16-bit register, at the higher address (`_HI`, R62). -/
def hi (v : Half) : Byte := v.extractLsb' 8 8

/-- The 16-bit value of a high and a low byte (`RD16`, R99; big-endian L, R86; the trailer, R88). -/
def pair (h l : Byte) : Half := h ++ l

/-- A write of the `_LO` byte: "changes that byte of the register at once" (R62). -/
def setLo (v : Half) (d : Byte) : Half := pair (hi v) d

/-- A write of the `_HI` byte (R62). -/
def setHi (v : Half) (d : Byte) : Half := pair d (lo v)

/-- The control byte of a transmitted frame, `zext_8(CTRL_BIT) << 5` (R83). -/
def controlByte (cb : Bool) : Byte := if cb then 0x20#8 else 0x00#8

/-- `HDR[i] <- b` (R172). The header has six bytes; no other index names one. -/
def Header.set (h : Header) (i : Nat) (b : Byte) : Header :=
  match i with
  | 0 => { h with h0 := b }
  | 1 => { h with h1 := b }
  | 2 => { h with h2 := b }
  | 3 => { h with h3 := b }
  | 4 => { h with h4 := b }
  | 5 => { h with h5 := b }
  | _ => h

/-- `L`, the length field, big-endian (R86, R135). -/
def Header.length (h : Header) : Half := pair h.h4 h.h5

/-- `more = control[0]` (R84, R135). -/
def Header.moreFlag (h : Header) : Bool := h.h2.getLsbD 0

/-- The state codes (R42). -/
def SeqState.code : SeqState → BitVec 4
  | .idle => 0#4
  | .send => 1#4
  | .awaitAck => 2#4
  | .sendNak => 3#4
  | .readHeader => 4#4
  | .readBody => 5#4
  | .readCrc => 6#4
  | .validate => 7#4
  | .sendAck => 8#4

/-- The error codes (R250). -/
def ErrorCode.code : ErrorCode → BitVec 4
  | .ioError => 1#4
  | .timeout => 2#4
  | .badFraming => 3#4
  | .crcMismatch => 4#4
  | .noAck => 5#4
  | .lengthError => 6#4
  | .overflow => 7#4

/-- ERR_CODE: ERR_STATE in bits 7..4, CODE in bits 3..0 (R23, R251). -/
def errorByte (st : SeqState) (c : ErrorCode) : Byte := st.code ++ c.code

end Sys2Proof.Machine
end

