-- ==== Sys2Proof/Machine/Checksum.lean ====
section
/-! DEFINITION. The two checksum functions (40_checksums R110 to R115): CRC-16/X-25, its MSB-first form, its check,
and the 8-bit table-data checksum. -/

namespace Sys2Proof.Machine

/-- One bit of CrcStep (R110): shift right, and XOR with 0x8408 when bit 0 was 1. -/
def crcBit (c : Half) : Half := if c.getLsbD 0 then (c >>> 1) ^^^ 0x8408#16 else c >>> 1

/-- `n` bits of CrcStep. -/
def crcBits : Nat → Half → Half
  | 0, c => c
  | n + 1, c => crcBits n (crcBit c)

/-- `CrcStep(c, b)` (R110). -/
def crcStep (c : Half) (b : Byte) : Half := crcBits 8 (c ^^^ b.setWidth 16)

/-- The CRC register after the bytes `s`, from `c`. -/
def crcFeed (c : Half) (s : List Byte) : Half := s.foldl crcStep c

/-- `crc16(s)` (R111): initial value 0xFFFF, final XOR 0xFFFF. -/
def crc16 (s : List Byte) : Half := crcFeed 0xFFFF#16 s ^^^ 0xFFFF#16

/-- One bit of the MSB-first form (R112). -/
def crcMsbBit (g : Half) : Half := if g.getLsbD 15 then (g <<< 1) ^^^ 0x1021#16 else g <<< 1

/-- `n` bits of the MSB-first form. -/
def crcMsbBits : Nat → Half → Half
  | 0, g => g
  | n + 1, g => crcMsbBits n (crcMsbBit g)

/-- One byte of the MSB-first form (R112): `g ^ (zext_16(rev8(b)) << 8)`, then eight bits. -/
def crcMsbStep (g : Half) (b : Byte) : Half := crcMsbBits 8 (g ^^^ (b.reverse.setWidth 16 <<< 8))

/-- The MSB-first CRC (R112): `rev16(g) ^ 0xFFFF`. -/
def crc16Msb (s : List Byte) : Half := (s.foldl crcMsbStep 0xFFFF#16).reverse ^^^ 0xFFFF#16

/-- `verifyCrc(f, t)` for the trailer bytes `t0 t1` as received, low byte first (R113). -/
def verifyCrc (f : List Byte) (t0 t1 : Byte) : Bool := crc16 f == pair t1 t0

/-- The byte sum modulo 256, from `s0` (R115, R120). -/
def tckFeed (s0 : Byte) (s : List Byte) : Byte := s.foldl (· + ·) s0

/-- The result a byte sum gives (R115, R121): `((sum - 1) mod 256) ^ 0xFF`. -/
def tckResult (sum : Byte) : Byte := (sum - 1#8) ^^^ 0xFF#8

/-- `tck(s)` (R115). -/
def tck (s : List Byte) : Byte := tckResult (tckFeed 0x00#8 s)

end Sys2Proof.Machine
end

