-- ==== Sys2Proof/Machine/Flags.lean ====
section
/-! DEFINITION. The flags and status bytes that are computed, not stored: BUSY, IRQ, `irq`, STAT (10_state R22,
60_exceptions R257), CRC_RES, CRC_OK and FLAGS2 (R38, 40_checksums R118, R119), TCK_RES (R121), ERR_CODE and CFG as
read, the transport port's outputs (R43, R74), and the saturating count (42_link_sequencer R162). -/

namespace Sys2Proof.Machine

/-- STAT.BUSY: `st != IDLE` (R22, R42). -/
def State.busy (s : State) : Bool := s.st != .idle

/-- STAT.IRQ and the `irq` output: `CFG.IRQ_EN & (STAT.DONE | STAT.ERR)` (R257). -/
def State.irq (s : State) : Bool := s.irqEn && (s.done || s.err)

/-- Eight flags as a byte, bit 7 first. -/
def flagByte (b7 b6 b5 b4 b3 b2 b1 b0 : Bool) : Byte :=
  BitVec.ofBool b7 ++ BitVec.ofBool b6 ++ BitVec.ofBool b5 ++ BitVec.ofBool b4 ++
    BitVec.ofBool b3 ++ BitVec.ofBool b2 ++ BitVec.ofBool b1 ++ BitVec.ofBool b0

/-- STAT as read (R22, R222). -/
def State.stat (s : State) : Byte :=
  flagByte s.irq s.moreLast s.rejected s.statusValid s.ctrlBit s.err s.done s.busy

/-- CFG as read: IRQ_EN in bit 0, the rest 0 (R25, R224). -/
def State.cfg (s : State) : Byte := if s.irqEn then 0x01#8 else 0x00#8

/-- `CRC_RES = CRC_ACC ^ 0xFFFF` (R118). -/
def State.crcRes (s : State) : Half := s.crcAcc ^^^ 0xFFFF#16

/-- FLAGS2.CRC_OK, "evaluated at every read" (R119). -/
def State.crcOk (s : State) : Bool := s.crcRes == s.crcChk

/-- FLAGS2 as read (R38, R237). -/
def State.flags2 (s : State) : Byte := flagByte false false false false s.rxUnf s.txOvf s.ign s.crcOk

/-- TCK_RES (R121). -/
def State.tckRes (s : State) : Byte := tckResult s.tckSum

/-- `sat_inc` (R162). -/
def satInc (x : Byte) : Byte := if x = 255#8 then 255#8 else x + 1#8

/-- `tx_valid`: the engine offers a byte to the transport (R43, R160). -/
def State.txValid (s : State) : Bool := s.st == .send || s.st == .sendNak || s.st == .sendAck

/-- `rx_req`: the engine asks for a byte, "only in states AWAIT_ACK, READ_HEADER, READ_BODY and READ_CRC" (R74). -/
def State.rxReq (s : State) : Bool :=
  s.st == .awaitAck || s.st == .readHeader || s.st == .readBody || s.st == .readCrc

end Sys2Proof.Machine
end

