-- ==== Sys2Proof/Machine/Ops.lean ====
section
/-! DEFINITION. The named operations the meanings share: buffer reads and writes (20_memory R60), the host's read
and the ignored write (R14, R230), ERROR ENTRY as one operation (60_exceptions R251), the transport's transmit and
receive (20_memory R74), and reset (70_reset R280). `@[simps]` on an update states one simp lemma for each field of
State, true by rfl: what the update writes and what it leaves. -/

namespace Sys2Proof.Machine

/-- The byte at index `i` of a buffer, if it has been written. -/
def Memory.read : Memory → Nat → Option Byte
  | [], _ => none
  | (a, b) :: m, i => if a = i then some b else Memory.read m i

/-- `MemWrite` (R60): the entry for `i` set to `b`, the indices kept rising. -/
def Memory.write : Memory → Nat → Byte → Memory
  | [], i, b => [(i, b)]
  | (a, c) :: m, i, b =>
    if i < a then (i, b) :: (a, c) :: m
    else if i = a then (i, b) :: m
    else (a, c) :: Memory.write m i b

/-- The canonical form: indices strictly rising. -/
def Memory.wf : Memory → Bool
  | [] => true
  | [_] => true
  | (a, _) :: (b, c) :: m => decide (a < b) && Memory.wf ((b, c) :: m)

/-- `MemRead(TX_BUF, i)` (R60), "defined for `0 <= i < 8182`"; an unwritten byte faults (R282, log 6, 8). -/
def State.txRead (s : State) (i : Nat) : Except Fault Byte :=
  if i < Config.txCap then
    match s.txBuf.read i with
    | some b => .ok b
    | none => .error (.txByteUnwritten i)
  else .error (.txBufRange i)

/-- `MemRead(RX_BUF, i)` (R60). A byte the engine never wrote is a free value (R31, log 7). -/
def State.rxRead (s : State) (i : Nat) : Byte := (s.rxBuf.read i).getD (Config.rxBufUnwritten i)

/-- A read access returns `v` on the bus and changes nothing else (R210). -/
@[simps] def State.returns (s : State) (v : Byte) : State := { s with rdata := v }

/-- A refused command or TX-group write: `FLAGS2.IGN <- 1`; nothing else (R216, R217, R221, R230). -/
@[simps] def State.ignored (s : State) : State := { s with ign := true }

/-- Error entry, `raise Error(code)` (60_exceptions R251): the block's one way to take an exception. ERR_CODE records
the code and the state the step started in, ERR is set, the engine goes to IDLE; "Nothing else changes". There is no
handler, so no saved pc or mode, and no return instruction: the host clears ERR by CLR_FLAGS (`State.clearFlags`) or by
the next EXCHANGE (`State.clearOutcome`) (R256). -/
@[simps] def State.raiseError (s : State) (c : ErrorCode) : State :=
  { s with errCode := errorByte s.st c, err := true, st := .idle }

/-- `CMD CLR_FLAGS` (43_host_interface R218), the host's leaving of an error with ERR_CODE kept (R256). -/
@[simps] def State.clearFlags (s : State) : State :=
  { s with done := false, err := false, ign := false, txOvf := false, rxUnf := false }

/-- What every EXCHANGE written while not busy clears first (43_host_interface R215). -/
@[simps] def State.clearOutcome (s : State) : State :=
  { s with
    done := false, err := false, errCode := 0x00#8
    statusValid := false, rejected := false, moreLast := false, status := 0x00#8
    fragCnt := 0x00#8, nakCnt := 0x00#8, rxLen := 0x0000#16, rxPtr := 0x0000#16
    hdr := Header.zero, rxCrc := 0x0000#16, calcCrc := 0x0000#16 }

/-- `BeginFragment()` (42_link_sequencer R162). -/
@[simps] def State.beginFragment (s : State) : State :=
  { s with hdrIdx := 0, bodyIdx := 0#16, crcIdx := 0, rxAcc := 0xFFFF#16, st := .readHeader }

/-- `Complete()` (42_link_sequencer R180). -/
@[simps] def State.complete (s : State) : State :=
  { s with
    status := if s.rxLen = 0#16 then 0x00#8 else s.rxRead 0
    statusValid := s.rxLen != 0#16
    rejected := s.rxLen != 0#16 && s.rxRead 0 != 0x00#8
    ctrlBit := !s.ctrlBit
    done := true
    st := .idle }

/-- One turn of the schedule has been taken (log 1). -/
@[simps] def State.tookTurn (s : State) (ts : List Turn) : State := { s with env := { s.env with turns := ts } }

/-- The host has made an access; `q` are those to come (log 2). -/
@[simps] def State.tookAccess (s : State) (q : List HostAccess) : State := { s with env := { s.env with hostQ := q } }

/-- The transport has answered a receive; `q` are the answers to come (log 3). -/
@[simps] def State.tookRx (s : State) (q : List RxAnswer) : State := { s with env := { s.env with rxQ := q } }

/-- The transport has answered a transmit with TxIoErr: the byte "counts as not sent by the block" (R265). -/
@[simps] def State.txFailed (s : State) (q : List TxAnswer) : State := { s with env := { s.env with txQ := q } }

/-- The transport has answered TxOk: byte `b` is on the line (R74). -/
@[simps] def State.txSent (s : State) (b : Byte) (q : List TxAnswer) : State :=
  { s with env := { s.env with txQ := q, line := s.env.line ++ [b] } }

/-- `r <- TxByte(b)` and what every transmit state does with `r` (R164, R171, R178, R179, R182): TxIoErr raises
IO_ERROR, TxOk goes on with `k`. While the transport has not answered, the engine waits (log 3). -/
def State.transmit (s : State) (b : Byte) (k : State → State) : State :=
  match s.env.txQ with
  | [] => s
  | .ioErr :: q => (s.txFailed q).raiseError .ioError
  | .ok :: q => k (s.txSent b q)

/-- Reset (70_reset R280, R281): every register takes its reset value; the transport, the host and the parameters are
not the block's (R283, log 5). -/
@[simps] def State.resetBlock (s : State) : State := { State.reset with par := s.par, env := s.env }

end Sys2Proof.Machine
end

