-- ==== Sys2Proof/Machine/Commands.lean ====
section
/-! DEFINITION. The commands, written to CMD (43_host_interface R213 to R221). Each takes effect in the step of the write. -/

namespace Sys2Proof.Machine

/-- `CMD_NOP` (R214): nothing. -/
def execCmdNop (s : State) : Result := .next s

/-- `CMD_EXCHANGE` (R215, R216): while busy ignored with IGN; else the outcome is cleared, and either the payload is too long
(R131: LENGTH_ERROR at once, from IDLE) or the engine starts to send. -/
def execCmdExchange (s : State) : Result :=
  if s.busy then .next s.ignored
  else if Config.txCap < s.txPlen.toNat then .next (s.clearOutcome.raiseError .lengthError)
  else .next { s.clearOutcome with txIdx := 0#14, st := .send }

/-- `CMD_SESSION_INIT` (R217): while busy ignored with IGN; else CTRL_BIT, DONE, ERR, ERR_CODE and the sticky flags are cleared. -/
def execCmdSessionInit (s : State) : Result :=
  if s.busy then .next s.ignored
  else .next { s.clearFlags with ctrlBit := false, errCode := 0x00#8 }

/-- `CMD_CLR_FLAGS` (R218), in every state. -/
def execCmdClrFlags (s : State) : Result := .next s.clearFlags

/-- `CMD_CRC_INIT` (R219), in every state. -/
def execCmdCrcInit (s : State) : Result := .next { s with crcAcc := 0xFFFF#16 }

/-- `CMD_TCK_INIT` (R220), in every state. -/
def execCmdTckInit (s : State) : Result := .next { s with tckSum := 0x00#8 }

/-- `CMD_RESERVED`, codes 0x06..0x07 (R221): "`FLAGS2.IGN <- 1`; nothing else". -/
def execCmdReserved06 (_low : BitVec 1) (s : State) : Result := .next s.ignored

/-- `CMD_RESERVED`, codes 0x08..0x0F (R221): "`FLAGS2.IGN <- 1`; nothing else". -/
def execCmdReserved08 (_low : BitVec 3) (s : State) : Result := .next s.ignored

/-- `CMD_RESERVED`, codes 0x10..0x1F (R221): "`FLAGS2.IGN <- 1`; nothing else". -/
def execCmdReserved10 (_low : BitVec 4) (s : State) : Result := .next s.ignored

/-- `CMD_RESERVED`, codes 0x20..0x3F (R221): "`FLAGS2.IGN <- 1`; nothing else". -/
def execCmdReserved20 (_low : BitVec 5) (s : State) : Result := .next s.ignored

/-- `CMD_RESERVED`, codes 0x40..0x7F (R221): "`FLAGS2.IGN <- 1`; nothing else". -/
def execCmdReserved40 (_low : BitVec 6) (s : State) : Result := .next s.ignored

/-- `CMD_RESERVED`, codes 0x80..0xFF (R221): "`FLAGS2.IGN <- 1`; nothing else". -/
def execCmdReserved80 (_low : BitVec 7) (s : State) : Result := .next s.ignored

end Sys2Proof.Machine
end

