-- ==== Sys2Proof/Machine/Request.lean ====
section
/-! DEFINITION. The request registers, the TX group (43_host_interface R225 to R230): a write while busy "is ignored and sets
`FLAGS2.IGN <- 1`" (R230). -/

namespace Sys2Proof.Machine

/-- A write to a TX-group register: `k` when not busy, IGN when busy (R230). -/
def State.txGroup (s : State) (k : State) : State := if s.busy then s.ignored else k

/-- `RD_SEQ` (R225). -/
def execRdSeq (s : State) : Result := .next (s.returns s.seq)

/-- `WR_SEQ` (R225, R230). -/
def execWrSeq (d : Byte) (s : State) : Result := .next (s.txGroup { s with seq := d })

/-- `RD_SVC` (R226). -/
def execRdSvc (s : State) : Result := .next (s.returns s.svc)

/-- `WR_SVC` (R226, R230). -/
def execWrSvc (d : Byte) (s : State) : Result := .next (s.txGroup { s with svc := d })

/-- `RD_TX_PLEN_LO` (R227). -/
def execRdTxPlenLo (s : State) : Result := .next (s.returns (lo s.txPlen))

/-- `WR_TX_PLEN_LO` (R227, R230). -/
def execWrTxPlenLo (d : Byte) (s : State) : Result := .next (s.txGroup { s with txPlen := setLo s.txPlen d })

/-- `RD_TX_PLEN_HI` (R227). -/
def execRdTxPlenHi (s : State) : Result := .next (s.returns (hi s.txPlen))

/-- `WR_TX_PLEN_HI` (R227, R230). -/
def execWrTxPlenHi (d : Byte) (s : State) : Result := .next (s.txGroup { s with txPlen := setHi s.txPlen d })

/-- `RD_TX_PTR_LO` (R228). -/
def execRdTxPtrLo (s : State) : Result := .next (s.returns (lo s.txPtr))

/-- `WR_TX_PTR_LO` (R228, R230). -/
def execWrTxPtrLo (d : Byte) (s : State) : Result := .next (s.txGroup { s with txPtr := setLo s.txPtr d })

/-- `RD_TX_PTR_HI` (R228). -/
def execRdTxPtrHi (s : State) : Result := .next (s.returns (hi s.txPtr))

/-- `WR_TX_PTR_HI` (R228, R230). -/
def execWrTxPtrHi (d : Byte) (s : State) : Result := .next (s.txGroup { s with txPtr := setHi s.txPtr d })

/-- `RD_TX_DATA` (R211): a write-only register "returns 0x00 and has no side effect". -/
def execRdTxData (s : State) : Result := .next (s.returns 0x00#8)

/-- `MemWrite(TX_BUF, TX_PTR, d)` and the pointer's advance, or TXOVF when TX_PTR is past the buffer (R229). -/
def State.pushTx (s : State) (d : Byte) : State :=
  if s.txPtr.toNat < Config.txCap then { s with txBuf := s.txBuf.write s.txPtr.toNat d, txPtr := s.txPtr + 1#16 }
  else { s with txOvf := true }

/-- `WR_TX_DATA` (R229, R230). -/
def execWrTxData (d : Byte) (s : State) : Result := .next (s.txGroup (s.pushTx d))

end Sys2Proof.Machine
end

