-- ==== Sys2Proof/Machine/Reserved.lean ====
section
/-! DEFINITION. Reserved addresses (20_memory R68): "read as 0x00; writes to them are ignored and set no flag". -/

namespace Sys2Proof.Machine

/-- `RD_RESERVED`, 0x0B (R68). -/
def execRdReserved0B (s : State) : Result := .next (s.returns 0x00#8)

/-- `WR_RESERVED`, 0x0B (R68). -/
def execWrReserved0B (_d : Byte) (s : State) : Result := .next s

/-- `RD_RESERVED`, 0x26..0x27 (R68). -/
def execRdReserved26 (_low : BitVec 1) (s : State) : Result := .next (s.returns 0x00#8)

/-- `WR_RESERVED`, 0x26..0x27 (R68). -/
def execWrReserved26 (_low : BitVec 1) (_d : Byte) (s : State) : Result := .next s

/-- `RD_RESERVED`, 0x28..0x2F (R68). -/
def execRdReserved28 (_low : BitVec 3) (s : State) : Result := .next (s.returns 0x00#8)

/-- `WR_RESERVED`, 0x28..0x2F (R68). -/
def execWrReserved28 (_low : BitVec 3) (_d : Byte) (s : State) : Result := .next s

/-- `RD_RESERVED`, 0x30..0x3F (R68). -/
def execRdReserved30 (_low : BitVec 4) (s : State) : Result := .next (s.returns 0x00#8)

/-- `WR_RESERVED`, 0x30..0x3F (R68). -/
def execWrReserved30 (_low : BitVec 4) (_d : Byte) (s : State) : Result := .next s

/-- `RD_RESERVED`, 0x40..0x7F (R68). -/
def execRdReserved40 (_low : BitVec 6) (s : State) : Result := .next (s.returns 0x00#8)

/-- `WR_RESERVED`, 0x40..0x7F (R68). -/
def execWrReserved40 (_low : BitVec 6) (_d : Byte) (s : State) : Result := .next s

/-- `RD_RESERVED`, 0x80..0xFF (R68). -/
def execRdReserved80 (_low : BitVec 7) (s : State) : Result := .next (s.returns 0x00#8)

/-- `WR_RESERVED`, 0x80..0xFF (R68). -/
def execWrReserved80 (_low : BitVec 7) (_d : Byte) (s : State) : Result := .next s

end Sys2Proof.Machine
end

