-- ==== Sys2Proof/Machine/Response.lean ====
section
/-! DEFINITION. The response registers (43_host_interface R231 to R233). -/

namespace Sys2Proof.Machine

/-- `RD_RX_LEN_LO` (R231). -/
def execRdRxLenLo (s : State) : Result := .next (s.returns (lo s.rxLen))

/-- `WR_RX_LEN_LO` (R212): a read-only register, "ignored and sets no flag". -/
def execWrRxLenLo (_d : Byte) (s : State) : Result := .next s

/-- `RD_RX_LEN_HI` (R231). -/
def execRdRxLenHi (s : State) : Result := .next (s.returns (hi s.rxLen))

/-- `WR_RX_LEN_HI` (R212): a read-only register, "ignored and sets no flag". -/
def execWrRxLenHi (_d : Byte) (s : State) : Result := .next s

/-- `RD_RX_PTR_LO` (R232). -/
def execRdRxPtrLo (s : State) : Result := .next (s.returns (lo s.rxPtr))

/-- `WR_RX_PTR_LO` (R232), in every state. -/
def execWrRxPtrLo (d : Byte) (s : State) : Result := .next { s with rxPtr := setLo s.rxPtr d }

/-- `RD_RX_PTR_HI` (R232). -/
def execRdRxPtrHi (s : State) : Result := .next (s.returns (hi s.rxPtr))

/-- `WR_RX_PTR_HI` (R232), in every state. -/
def execWrRxPtrHi (d : Byte) (s : State) : Result := .next { s with rxPtr := setHi s.rxPtr d }

/-- `RD_RX_DATA` (R233): the byte of RX_BUF at RX_PTR, and the pointer advances; past RX_LEN 0x00, and RXUNF is set. -/
def execRdRxData (s : State) : Result :=
  if s.rxPtr.toNat < s.rxLen.toNat then .next { s with rdata := s.rxRead s.rxPtr.toNat, rxPtr := s.rxPtr + 1#16 }
  else .next { s with rdata := 0x00#8, rxUnf := true }

/-- `WR_RX_DATA` (R212): a read-only register, "ignored and sets no flag". -/
def execWrRxData (_d : Byte) (s : State) : Result := .next s

end Sys2Proof.Machine
end

