-- ==== Sys2Proof/Machine/Service.lean ====
section
/-! DEFINITION. Service codes (30_encoding R92): "The host writes the service code to SVC; the block copies it to data byte 0 and
does not interpret it". Each is the write of its code to SVC, under the rules of the TX group (R226, R230, log 13). -/

namespace Sys2Proof.Machine

/-- `SVC_IDENT` (R92, R226). -/
def execSvcIdent (s : State) : Result := .next (s.txGroup { s with svc := 0x20#8 })

/-- `SVC_TERMINATE` (R92, R226). -/
def execSvcTerminate (s : State) : Result := .next (s.txGroup { s with svc := 0x21#8 })

/-- `SVC_FULL_READ` (R92, R226). -/
def execSvcFullRead (s : State) : Result := .next (s.txGroup { s with svc := 0x30#8 })

/-- `SVC_FULL_WRITE` (R92, R226). -/
def execSvcFullWrite (s : State) : Result := .next (s.txGroup { s with svc := 0x40#8 })

/-- `SVC_PARTIAL_WRITE` (R92, R226). -/
def execSvcPartialWrite (s : State) : Result := .next (s.txGroup { s with svc := 0x4F#8 })

/-- `SVC_LOGON` (R92, R226). -/
def execSvcLogon (s : State) : Result := .next (s.txGroup { s with svc := 0x50#8 })

/-- `SVC_SECURITY` (R92, R226). -/
def execSvcSecurity (s : State) : Result := .next (s.txGroup { s with svc := 0x51#8 })

/-- `SVC_LOGOFF` (R92, R226). -/
def execSvcLogoff (s : State) : Result := .next (s.txGroup { s with svc := 0x52#8 })

/-- `SVC_NEGOTIATE` (R92, R226). -/
def execSvcNegotiate (s : State) : Result := .next (s.txGroup { s with svc := 0x61#8 })

end Sys2Proof.Machine
end

