-- ==== Sys2Proof/Machine/Status.lean ====
section
/-! DEFINITION. Status and control registers (43_host_interface R211, R212, R222 to R224, R234 to R237, R239, R240): CMD as
read, STAT, ERR_CODE, CFG, STATUS, the counters, FLAGS2 and the diagnostic registers. -/

namespace Sys2Proof.Machine

/-- `RD_CMD` (R211): a write-only register "returns 0x00 and has no side effect". -/
def execRdCmd (s : State) : Result := .next (s.returns 0x00#8)

/-- `RD_STAT` (R222). -/
def execRdStat (s : State) : Result := .next (s.returns s.stat)

/-- `WR_STAT` (R212): a read-only register, "ignored and sets no flag". -/
def execWrStat (_d : Byte) (s : State) : Result := .next s

/-- `RD_ERR_CODE` (R223). -/
def execRdErrCode (s : State) : Result := .next (s.returns s.errCode)

/-- `WR_ERR_CODE` (R212): a read-only register, "ignored and sets no flag". -/
def execWrErrCode (_d : Byte) (s : State) : Result := .next s

/-- `RD_CFG` (R224). -/
def execRdCfg (s : State) : Result := .next (s.returns s.cfg)

/-- `WR_CFG` (R224): `IRQ_EN <- d[0]`, bits 7..1 ignored, in every state. -/
def execWrCfg (d : Byte) (s : State) : Result := .next { s with irqEn := d.getLsbD 0 }

/-- `RD_STATUS` (R234). -/
def execRdStatus (s : State) : Result := .next (s.returns s.status)

/-- `WR_STATUS` (R212): a read-only register, "ignored and sets no flag". -/
def execWrStatus (_d : Byte) (s : State) : Result := .next s

/-- `RD_FRAG_CNT` (R235). -/
def execRdFragCnt (s : State) : Result := .next (s.returns s.fragCnt)

/-- `WR_FRAG_CNT` (R212): a read-only register, "ignored and sets no flag". -/
def execWrFragCnt (_d : Byte) (s : State) : Result := .next s

/-- `RD_NAK_CNT` (R236). -/
def execRdNakCnt (s : State) : Result := .next (s.returns s.nakCnt)

/-- `WR_NAK_CNT` (R212): a read-only register, "ignored and sets no flag". -/
def execWrNakCnt (_d : Byte) (s : State) : Result := .next s

/-- `RD_FLAGS2` (R237). -/
def execRdFlags2 (s : State) : Result := .next (s.returns s.flags2)

/-- `WR_FLAGS2` (R212): a read-only register, "ignored and sets no flag". -/
def execWrFlags2 (_d : Byte) (s : State) : Result := .next s

/-- `RD_RXCRC_LO` (R239). -/
def execRdRxcrcLo (s : State) : Result := .next (s.returns (lo s.rxCrc))

/-- `WR_RXCRC_LO` (R212): a read-only register, "ignored and sets no flag". -/
def execWrRxcrcLo (_d : Byte) (s : State) : Result := .next s

/-- `RD_RXCRC_HI` (R239). -/
def execRdRxcrcHi (s : State) : Result := .next (s.returns (hi s.rxCrc))

/-- `WR_RXCRC_HI` (R212): a read-only register, "ignored and sets no flag". -/
def execWrRxcrcHi (_d : Byte) (s : State) : Result := .next s

/-- `RD_CALCCRC_LO` (R239). -/
def execRdCalccrcLo (s : State) : Result := .next (s.returns (lo s.calcCrc))

/-- `WR_CALCCRC_LO` (R212): a read-only register, "ignored and sets no flag". -/
def execWrCalccrcLo (_d : Byte) (s : State) : Result := .next s

/-- `RD_CALCCRC_HI` (R239). -/
def execRdCalccrcHi (s : State) : Result := .next (s.returns (hi s.calcCrc))

/-- `WR_CALCCRC_HI` (R212): a read-only register, "ignored and sets no flag". -/
def execWrCalccrcHi (_d : Byte) (s : State) : Result := .next s

/-- `RD_HDR0` (R240). -/
def execRdHdr0 (s : State) : Result := .next (s.returns s.hdr.h0)

/-- `WR_HDR0` (R212): a read-only register, "ignored and sets no flag". -/
def execWrHdr0 (_d : Byte) (s : State) : Result := .next s

/-- `RD_HDR1` (R240). -/
def execRdHdr1 (s : State) : Result := .next (s.returns s.hdr.h1)

/-- `WR_HDR1` (R212): a read-only register, "ignored and sets no flag". -/
def execWrHdr1 (_d : Byte) (s : State) : Result := .next s

/-- `RD_HDR2` (R240). -/
def execRdHdr2 (s : State) : Result := .next (s.returns s.hdr.h2)

/-- `WR_HDR2` (R212): a read-only register, "ignored and sets no flag". -/
def execWrHdr2 (_d : Byte) (s : State) : Result := .next s

/-- `RD_HDR3` (R240). -/
def execRdHdr3 (s : State) : Result := .next (s.returns s.hdr.h3)

/-- `WR_HDR3` (R212): a read-only register, "ignored and sets no flag". -/
def execWrHdr3 (_d : Byte) (s : State) : Result := .next s

/-- `RD_HDR4` (R240). -/
def execRdHdr4 (s : State) : Result := .next (s.returns s.hdr.h4)

/-- `WR_HDR4` (R212): a read-only register, "ignored and sets no flag". -/
def execWrHdr4 (_d : Byte) (s : State) : Result := .next s

/-- `RD_HDR5` (R240). -/
def execRdHdr5 (s : State) : Result := .next (s.returns s.hdr.h5)

/-- `WR_HDR5` (R212): a read-only register, "ignored and sets no flag". -/
def execWrHdr5 (_d : Byte) (s : State) : Result := .next s

end Sys2Proof.Machine
end

