-- ==== Sys2Proof/Machine/Units.lean ====
section
/-! DEFINITION. The host checksum units (40_checksums R117 to R122; 43_host_interface R211, R212, R238). They share nothing with
the engine (R122). -/

namespace Sys2Proof.Machine

/-- `RD_CRC_DATA` (R211): a write-only register "returns 0x00 and has no side effect". -/
def execRdCrcData (s : State) : Result := .next (s.returns 0x00#8)

/-- `WR_CRC_DATA` (R117), in every state. -/
def execWrCrcData (d : Byte) (s : State) : Result := .next { s with crcAcc := crcStep s.crcAcc d }

/-- `RD_CRC_RES_LO` (R118). -/
def execRdCrcResLo (s : State) : Result := .next (s.returns (lo s.crcRes))

/-- `WR_CRC_RES_LO` (R212): a read-only register, "ignored and sets no flag". -/
def execWrCrcResLo (_d : Byte) (s : State) : Result := .next s

/-- `RD_CRC_RES_HI` (R118). -/
def execRdCrcResHi (s : State) : Result := .next (s.returns (hi s.crcRes))

/-- `WR_CRC_RES_HI` (R212): a read-only register, "ignored and sets no flag". -/
def execWrCrcResHi (_d : Byte) (s : State) : Result := .next s

/-- `RD_CRC_CHK_LO` (R238). -/
def execRdCrcChkLo (s : State) : Result := .next (s.returns (lo s.crcChk))

/-- `WR_CRC_CHK_LO` (R238), in every state. -/
def execWrCrcChkLo (d : Byte) (s : State) : Result := .next { s with crcChk := setLo s.crcChk d }

/-- `RD_CRC_CHK_HI` (R238). -/
def execRdCrcChkHi (s : State) : Result := .next (s.returns (hi s.crcChk))

/-- `WR_CRC_CHK_HI` (R238), in every state. -/
def execWrCrcChkHi (d : Byte) (s : State) : Result := .next { s with crcChk := setHi s.crcChk d }

/-- `RD_TCK_DATA` (R211): a write-only register "returns 0x00 and has no side effect". -/
def execRdTckData (s : State) : Result := .next (s.returns 0x00#8)

/-- `WR_TCK_DATA` (R120), in every state: the sum wraps modulo 256. -/
def execWrTckData (d : Byte) (s : State) : Result := .next { s with tckSum := s.tckSum + d }

/-- `RD_TCK_RES` (R121). -/
def execRdTckRes (s : State) : Result := .next (s.returns s.tckRes)

/-- `WR_TCK_RES` (R212): a read-only register, "ignored and sets no flag". -/
def execWrTckRes (_d : Byte) (s : State) : Result := .next s

end Sys2Proof.Machine
end

