-- ==== Sys2Proof/Machine/Framer.lean ====
section
/-! DEFINITION. The framer (41_framer): Encode, Decode, the bytes of TxFrame, and the checks of a received header. -/

namespace Sys2Proof.Machine

/-- The seven bytes before the payload (R80, R130): STP, identity, control, sequence number, L big-endian, SVC. -/
def frameHead (svc : Byte) (len : Half) (cb : Bool) (seq : Byte) : List Byte :=
  [Config.stp, Config.ident, controlByte cb, seq, hi len, lo len, svc]

/-- The CRC trailer, low byte first (R88). -/
def trailer (body : List Byte) : List Byte := [lo (crc16 body), hi (crc16 body)]

/-- `Encode(svc, p, cb, seq)` (R130); it "fails if len(payload) + 1 > 8183" (R131). -/
def encodeFrame (svc : Byte) (p : List Byte) (cb : Bool) (seq : Byte) : Option (List Byte) :=
  if p.length + 1 ≤ Config.maxData then
    let body := frameHead svc (BitVec.ofNat 16 (p.length + 1)) cb seq ++ p
    some (body ++ trailer body)
  else none

/-- Why `Decode` calls a byte sequence invalid (R133). -/
inductive FrameError where
  | short
  | long
  | badFraming
  | crcMismatch
  | noServiceCode
deriving DecidableEq, Repr

/-- What `Decode` reads from a frame (R133). -/
structure Request where
  svc : Byte
  payload : List Byte
  ctrl : Bool
  seq : Byte
deriving DecidableEq, Repr

/-- `Decode(f)` (R133). Of "Invalid(Short or Long)" it answers short when bytes are missing, long when there are too
many (log 18). -/
def decodeFrame (f : List Byte) : Except FrameError Request :=
  if f.length < 8 then .error .short
  else if f.getD 0 0#8 ≠ Config.stp then .error .badFraming
  else
    let len := (pair (f.getD 4 0#8) (f.getD 5 0#8)).toNat
    if f.length < len + 8 then .error .short
    else if len + 8 < f.length then .error .long
    else if !verifyCrc (f.take (6 + len)) (f.getD (6 + len) 0#8) (f.getD (7 + len) 0#8) then .error .crcMismatch
    else if len = 0 then .error .noServiceCode
    else .ok ⟨f.getD 6 0#8, (f.drop 7).take (len - 1), (f.getD 2 0#8).getLsbD 5, f.getD 3 0#8⟩

/-- `[MemRead(TX_BUF, j) for j in i .. i+n-1]` (R132). -/
def State.txBytes (s : State) : Nat → Nat → Except Fault (List Byte)
  | _, 0 => .ok []
  | i, n + 1 =>
    match s.txRead i with
    | .error f => .error f
    | .ok b =>
      match s.txBytes (i + 1) n with
      | .error f => .error f
      | .ok bs => .ok (b :: bs)

/-- The payload of the request: TX_BUF from index 0, TX_PLEN bytes (R28, R132). -/
def State.payload (s : State) : Except Fault (List Byte) := s.txBytes 0 s.txPlen.toNat

/-- `|TxFrame| = TX_PLEN + 9` (R163). -/
def State.frameLen (s : State) : Nat := s.txPlen.toNat + 9

/-- The seven bytes of TxFrame before the payload, from SVC, TX_PLEN, CTRL_BIT and SEQ (R132). -/
def State.txHead (s : State) : List Byte := frameHead s.svc (s.txPlen + 1#16) s.ctrlBit s.seq

/-- The CRC of TxFrame (R88, R130), which needs the whole payload. -/
def State.txCrc (s : State) : Except Fault Half :=
  match s.payload with
  | .error f => .error f
  | .ok p => .ok (crc16 (s.txHead ++ p))

/-- `TxFrame[i]` (R132, R164): the encoder reads TX_BUF as each byte is sent, so an unwritten payload byte is met at
the step that needs it (log 6). -/
def State.txFrameByte (s : State) (i : Nat) : Except Fault Byte :=
  if i < 7 then .ok (s.txHead.getD i 0#8)
  else if i < 7 + s.txPlen.toNat then s.txRead (i - 7)
  else if i = 7 + s.txPlen.toNat then s.txCrc.map lo
  else if i = 8 + s.txPlen.toNat then s.txCrc.map hi
  else .error (.txIdxRange i)

/-- `tx_data`, the byte the engine offers while `tx_valid` (R43, R74). -/
def State.txData (s : State) : Option (Except Fault Byte) :=
  match s.st with
  | .send => some (s.txFrameByte s.txIdx.toNat)
  | .sendNak => some (.ok Config.nak)
  | .sendAck => some (.ok Config.ack)
  | _ => none

/-- The first check a complete header fails, in the order of R141: start marker (R136), length under RX_LEN_STRICT
(R137), capacity (R138). -/
def State.headerError (s : State) : Option ErrorCode :=
  if s.hdr.h0 ≠ Config.stp then some .badFraming
  else if s.par.rxLenStrict = true ∧ Config.maxData < s.hdr.length.toNat then some .badFraming
  else if s.par.reasmCap.toNat < s.rxLen.toNat + s.hdr.length.toNat then some .overflow
  else none

end Sys2Proof.Machine
end

