-- ==== Sys2Proof/Machine/Sequencer.lean ====
section
/-! DEFINITION. The engine's transitions (42_link_sequencer R164 to R182), one definition for each rule; the meanings
of the wire instructions (Machine/Wire.lean) and the fetch (Machine/Fetch.lean) call them. -/

namespace Sys2Proof.Machine

/-- SEND, after TxOk (R164), and the end of SEND in the same step (R165). -/
def State.sentFrameByte (s : State) : State :=
  if s.txIdx.toNat + 1 < s.frameLen then { s with txIdx := s.txIdx + 1#14 }
  else { s with txIdx := s.txIdx + 1#14, discCnt := 0, nakRounds := 0x00#8, st := .awaitAck }

/-- SEND_NAK, after TxOk (R171). -/
@[simps] def State.sentNak (s : State) : State :=
  { s with nakCnt := satInc s.nakCnt, nakRounds := satInc s.nakRounds, discCnt := 0, st := .awaitAck }

/-- SEND_ACK, after TxOk: the next fragment (R178), or completion (R179, R180). -/
def State.sentAck (s : State) : State := if s.ackFinal then s.complete else s.beginFragment

/-- `NAK_ROUNDS_MAX = UNBOUNDED or nak_rounds < NAK_ROUNDS_MAX` (R169). -/
def State.nakRoundLeft (s : State) : Bool :=
  match s.par.nakRoundsMax with
  | none => true
  | some k => decide (s.nakRounds.toNat < k.val)

/-- AWAIT_ACK, a byte other than ACK and NAK (R168), and the exhausted budget in the same step (R169). -/
def State.discardByte (s : State) : State :=
  if s.discCnt + 1 < s.par.nDiscard then { s with discCnt := s.discCnt + 1 }
  else if s.nakRoundLeft then { s with discCnt := s.discCnt + 1, st := .sendNak }
  else State.raiseError { s with discCnt := s.discCnt + 1 } .noAck

/-- The sixth header byte has been stored (R173): the checks of R141, then `frag_len` and the next state (log 17). -/
def State.headerDone (s : State) : State :=
  match s.headerError with
  | some c => State.raiseError { s with more := s.hdr.moreFlag } c
  | none =>
    { s with
      more := s.hdr.moreFlag, fragLen := s.hdr.length
      st := if s.hdr.length = 0#16 then .readCrc else .readBody }

/-- READ_HEADER: the byte is stored and enters the CRC (R172). -/
@[simps] def State.tookHeaderByte (s : State) (b : Byte) : State :=
  { s with hdr := s.hdr.set s.hdrIdx b, rxAcc := crcStep s.rxAcc b, hdrIdx := s.hdrIdx + 1 }

/-- READ_HEADER, answer `Byte(b)` (R172, R173). -/
def State.headerByte (s : State) (b : Byte) : State :=
  if s.hdrIdx + 1 < Config.hdrLen then s.tookHeaderByte b else (s.tookHeaderByte b).headerDone

/-- The RX_BUF index of the next body byte (R174). -/
def State.bodyIndex (s : State) : Nat := s.rxLen.toNat + s.bodyIdx.toNat

/-- READ_BODY, answer `Byte(b)` (R174); RX_BUF has no byte at or beyond REASM_CAP (R60, log 8). -/
def State.bodyByte (s : State) (b : Byte) : Result :=
  if s.bodyIndex < s.par.reasmCap.toNat then
    .next { s with
      rxBuf := s.rxBuf.write s.bodyIndex b, rxAcc := crcStep s.rxAcc b, bodyIdx := s.bodyIdx + 1#16
      st := if s.bodyIdx.toNat + 1 < s.fragLen.toNat then .readBody else .readCrc }
  else .fault (.rxBufRange s.bodyIndex)

/-- READ_CRC, answer `Byte(b)` (R175): the low byte first (log 19). -/
def State.crcByte (s : State) (b : Byte) : State :=
  if s.crcIdx = 0 then { s with rxCrc := setLo s.rxCrc b, crcIdx := 1 }
  else { s with rxCrc := setHi s.rxCrc b, crcIdx := 2, st := .validate }

/-- The CRC of the fragment received (R176). -/
def State.fragCrc (s : State) : Half := s.rxAcc ^^^ 0xFFFF#16

/-- VALIDATE (R176, R177). -/
def State.validateFrag (s : State) : State :=
  if s.fragCrc = s.rxCrc then
    { s with
      calcCrc := s.fragCrc, rxLen := s.rxLen + s.fragLen, fragCnt := satInc s.fragCnt
      moreLast := s.more, ackFinal := !s.more, st := .sendAck }
  else State.raiseError { s with calcCrc := s.fragCrc } .crcMismatch

end Sys2Proof.Machine
end

