-- ==== Sys2Proof/Machine/Wire.lean ====
section
/-! DEFINITION. The wire: one byte the engine transmits or receives (42_link_sequencer R164 to R182, R90, log 14). The table gives each row
the state it belongs to; in any other state the engine neither sends nor takes that byte and the instruction has no
effect (log 15): the fetch never asks for it there. -/

namespace Sys2Proof.Machine

/-- `TX_FRAME` (R164, R165, R182): `TxFrame[tx_idx]`, in SEND. The byte is read before the transport answers (log 6). -/
def execTxFrame (s : State) : Result :=
  match s.st with
  | .send =>
    match s.txFrameByte s.txIdx.toNat with
    | .ok b => .next (s.transmit b State.sentFrameByte)
    | .error f => .fault f
  | _ => .next s

/-- `TX_ACK` (R178, R179, R180, R182), in SEND_ACK. -/
def execTxAck (s : State) : Result :=
  match s.st with
  | .sendAck => .next (s.transmit Config.ack State.sentAck)
  | _ => .next s

/-- `TX_NAK` (R171, R182), in SEND_NAK. -/
def execTxNak (s : State) : Result :=
  match s.st with
  | .sendNak => .next (s.transmit Config.nak State.sentNak)
  | _ => .next s

/-- `RX_ACK` (R166), in AWAIT_ACK. -/
def execRxAck (s : State) : Result :=
  match s.st with
  | .awaitAck => .next s.beginFragment
  | _ => .next s

/-- `RX_NAK` (R167), in AWAIT_ACK: the exchange ends with NO_ACK. -/
def execRxNak (s : State) : Result :=
  match s.st with
  | .awaitAck => .next (s.raiseError .noAck)
  | _ => .next s

/-- `RX_DISCARD` (R168, R169), in AWAIT_ACK: "stored nowhere and enters no CRC". -/
def execRxDiscard (_b : Byte) (s : State) : Result :=
  match s.st with
  | .awaitAck => .next s.discardByte
  | _ => .next s

/-- `RX_FRAME` (R172 to R175): a byte of a response fragment, in READ_HEADER, READ_BODY and READ_CRC. -/
def execRxFrame (b : Byte) (s : State) : Result :=
  match s.st with
  | .readHeader => .next (s.headerByte b)
  | .readBody => s.bodyByte b
  | .readCrc => .next (s.crcByte b)
  | _ => .next s

end Sys2Proof.Machine
end

