-- ==== Sys2Proof/Syntax.lean ====
section
/-! DEFINITION. The instructions: one constructor for each row of the opcode table, in the table's order. A row is one
atomic step of the host or of the engine (00_scope R15). Rows that share a mnemonic (the reserved ranges, which the
table cuts into blocks of a power of two) are one constructor each, whose operand `low` is the block's free bits. -/

namespace Sys2Proof

/-- One step that the opcode table gives a row. `d` is the byte a host write carries (30_encoding R96), `b` the byte
the transport delivers (20_memory R74), `low` the low bits of a reserved command code or address. -/
inductive Instr where
  -- Commands, written to CMD (43_host_interface R213 to R221)
  | cmdNop
  | cmdExchange
  | cmdSessionInit
  | cmdClrFlags
  | cmdCrcInit
  | cmdTckInit
  | cmdReserved06 (low : BitVec 1)
  | cmdReserved08 (low : BitVec 3)
  | cmdReserved10 (low : BitVec 4)
  | cmdReserved20 (low : BitVec 5)
  | cmdReserved40 (low : BitVec 6)
  | cmdReserved80 (low : BitVec 7)
  -- Register accesses (43_host_interface R211, R212, R222 to R240; 40_checksums R117 to R121)
  | rdCmd
  | rdStat
  | wrStat (d : Byte)
  | rdErrCode
  | wrErrCode (d : Byte)
  | rdCfg
  | wrCfg (d : Byte)
  | rdSeq
  | wrSeq (d : Byte)
  | rdSvc
  | wrSvc (d : Byte)
  | rdTxPlenLo
  | wrTxPlenLo (d : Byte)
  | rdTxPlenHi
  | wrTxPlenHi (d : Byte)
  | rdTxPtrLo
  | wrTxPtrLo (d : Byte)
  | rdTxPtrHi
  | wrTxPtrHi (d : Byte)
  | rdTxData
  | wrTxData (d : Byte)
  | rdRxLenLo
  | wrRxLenLo (d : Byte)
  | rdRxLenHi
  | wrRxLenHi (d : Byte)
  | rdRxPtrLo
  | wrRxPtrLo (d : Byte)
  | rdRxPtrHi
  | wrRxPtrHi (d : Byte)
  | rdRxData
  | wrRxData (d : Byte)
  | rdStatus
  | wrStatus (d : Byte)
  | rdFragCnt
  | wrFragCnt (d : Byte)
  | rdNakCnt
  | wrNakCnt (d : Byte)
  | rdFlags2
  | wrFlags2 (d : Byte)
  | rdCrcData
  | wrCrcData (d : Byte)
  | rdCrcResLo
  | wrCrcResLo (d : Byte)
  | rdCrcResHi
  | wrCrcResHi (d : Byte)
  | rdCrcChkLo
  | wrCrcChkLo (d : Byte)
  | rdCrcChkHi
  | wrCrcChkHi (d : Byte)
  | rdTckData
  | wrTckData (d : Byte)
  | rdTckRes
  | wrTckRes (d : Byte)
  | rdRxcrcLo
  | wrRxcrcLo (d : Byte)
  | rdRxcrcHi
  | wrRxcrcHi (d : Byte)
  | rdCalccrcLo
  | wrCalccrcLo (d : Byte)
  | rdCalccrcHi
  | wrCalccrcHi (d : Byte)
  | rdHdr0
  | wrHdr0 (d : Byte)
  | rdHdr1
  | wrHdr1 (d : Byte)
  | rdHdr2
  | wrHdr2 (d : Byte)
  | rdHdr3
  | wrHdr3 (d : Byte)
  | rdHdr4
  | wrHdr4 (d : Byte)
  | rdHdr5
  | wrHdr5 (d : Byte)
  -- Reserved addresses (20_memory R68)
  | rdReserved0B
  | wrReserved0B (d : Byte)
  | rdReserved26 (low : BitVec 1)
  | wrReserved26 (low : BitVec 1) (d : Byte)
  | rdReserved28 (low : BitVec 3)
  | wrReserved28 (low : BitVec 3) (d : Byte)
  | rdReserved30 (low : BitVec 4)
  | wrReserved30 (low : BitVec 4) (d : Byte)
  | rdReserved40 (low : BitVec 6)
  | wrReserved40 (low : BitVec 6) (d : Byte)
  | rdReserved80 (low : BitVec 7)
  | wrReserved80 (low : BitVec 7) (d : Byte)
  -- Bytes the engine transmits (42_link_sequencer R164, R171, R178, R179)
  | txFrame
  | txAck
  | txNak
  -- Bytes the engine receives (42_link_sequencer R166 to R168, R172 to R175)
  | rxAck
  | rxNak
  | rxDiscard (b : Byte)
  | rxFrame (b : Byte)
  -- Service codes the host places in SVC (30_encoding R92)
  | svcIdent
  | svcTerminate
  | svcFullRead
  | svcFullWrite
  | svcPartialWrite
  | svcLogon
  | svcSecurity
  | svcLogoff
  | svcNegotiate
deriving DecidableEq, Repr

end Sys2Proof
end

