-- ==== Sys2Proof/Machine/Dispatch.lean ====
section
/-! DEFINITION. One arm for each instruction, each one call of its meaning. -/

namespace Sys2Proof.Machine

def exec (i : Instr) (s : State) : Host.Outcome State Fault Refusal :=
  match i with
  | .cmdNop => Sys2Proof.Machine.execCmdNop s
  | .cmdExchange => Sys2Proof.Machine.execCmdExchange s
  | .cmdSessionInit => Sys2Proof.Machine.execCmdSessionInit s
  | .cmdClrFlags => Sys2Proof.Machine.execCmdClrFlags s
  | .cmdCrcInit => Sys2Proof.Machine.execCmdCrcInit s
  | .cmdTckInit => Sys2Proof.Machine.execCmdTckInit s
  | .cmdReserved06 low => Sys2Proof.Machine.execCmdReserved06 low s
  | .cmdReserved08 low => Sys2Proof.Machine.execCmdReserved08 low s
  | .cmdReserved10 low => Sys2Proof.Machine.execCmdReserved10 low s
  | .cmdReserved20 low => Sys2Proof.Machine.execCmdReserved20 low s
  | .cmdReserved40 low => Sys2Proof.Machine.execCmdReserved40 low s
  | .cmdReserved80 low => Sys2Proof.Machine.execCmdReserved80 low s
  | .rdCmd => Sys2Proof.Machine.execRdCmd s
  | .rdStat => Sys2Proof.Machine.execRdStat s
  | .wrStat d => Sys2Proof.Machine.execWrStat d s
  | .rdErrCode => Sys2Proof.Machine.execRdErrCode s
  | .wrErrCode d => Sys2Proof.Machine.execWrErrCode d s
  | .rdCfg => Sys2Proof.Machine.execRdCfg s
  | .wrCfg d => Sys2Proof.Machine.execWrCfg d s
  | .rdSeq => Sys2Proof.Machine.execRdSeq s
  | .wrSeq d => Sys2Proof.Machine.execWrSeq d s
  | .rdSvc => Sys2Proof.Machine.execRdSvc s
  | .wrSvc d => Sys2Proof.Machine.execWrSvc d s
  | .rdTxPlenLo => Sys2Proof.Machine.execRdTxPlenLo s
  | .wrTxPlenLo d => Sys2Proof.Machine.execWrTxPlenLo d s
  | .rdTxPlenHi => Sys2Proof.Machine.execRdTxPlenHi s
  | .wrTxPlenHi d => Sys2Proof.Machine.execWrTxPlenHi d s
  | .rdTxPtrLo => Sys2Proof.Machine.execRdTxPtrLo s
  | .wrTxPtrLo d => Sys2Proof.Machine.execWrTxPtrLo d s
  | .rdTxPtrHi => Sys2Proof.Machine.execRdTxPtrHi s
  | .wrTxPtrHi d => Sys2Proof.Machine.execWrTxPtrHi d s
  | .rdTxData => Sys2Proof.Machine.execRdTxData s
  | .wrTxData d => Sys2Proof.Machine.execWrTxData d s
  | .rdRxLenLo => Sys2Proof.Machine.execRdRxLenLo s
  | .wrRxLenLo d => Sys2Proof.Machine.execWrRxLenLo d s
  | .rdRxLenHi => Sys2Proof.Machine.execRdRxLenHi s
  | .wrRxLenHi d => Sys2Proof.Machine.execWrRxLenHi d s
  | .rdRxPtrLo => Sys2Proof.Machine.execRdRxPtrLo s
  | .wrRxPtrLo d => Sys2Proof.Machine.execWrRxPtrLo d s
  | .rdRxPtrHi => Sys2Proof.Machine.execRdRxPtrHi s
  | .wrRxPtrHi d => Sys2Proof.Machine.execWrRxPtrHi d s
  | .rdRxData => Sys2Proof.Machine.execRdRxData s
  | .wrRxData d => Sys2Proof.Machine.execWrRxData d s
  | .rdStatus => Sys2Proof.Machine.execRdStatus s
  | .wrStatus d => Sys2Proof.Machine.execWrStatus d s
  | .rdFragCnt => Sys2Proof.Machine.execRdFragCnt s
  | .wrFragCnt d => Sys2Proof.Machine.execWrFragCnt d s
  | .rdNakCnt => Sys2Proof.Machine.execRdNakCnt s
  | .wrNakCnt d => Sys2Proof.Machine.execWrNakCnt d s
  | .rdFlags2 => Sys2Proof.Machine.execRdFlags2 s
  | .wrFlags2 d => Sys2Proof.Machine.execWrFlags2 d s
  | .rdCrcData => Sys2Proof.Machine.execRdCrcData s
  | .wrCrcData d => Sys2Proof.Machine.execWrCrcData d s
  | .rdCrcResLo => Sys2Proof.Machine.execRdCrcResLo s
  | .wrCrcResLo d => Sys2Proof.Machine.execWrCrcResLo d s
  | .rdCrcResHi => Sys2Proof.Machine.execRdCrcResHi s
  | .wrCrcResHi d => Sys2Proof.Machine.execWrCrcResHi d s
  | .rdCrcChkLo => Sys2Proof.Machine.execRdCrcChkLo s
  | .wrCrcChkLo d => Sys2Proof.Machine.execWrCrcChkLo d s
  | .rdCrcChkHi => Sys2Proof.Machine.execRdCrcChkHi s
  | .wrCrcChkHi d => Sys2Proof.Machine.execWrCrcChkHi d s
  | .rdTckData => Sys2Proof.Machine.execRdTckData s
  | .wrTckData d => Sys2Proof.Machine.execWrTckData d s
  | .rdTckRes => Sys2Proof.Machine.execRdTckRes s
  | .wrTckRes d => Sys2Proof.Machine.execWrTckRes d s
  | .rdRxcrcLo => Sys2Proof.Machine.execRdRxcrcLo s
  | .wrRxcrcLo d => Sys2Proof.Machine.execWrRxcrcLo d s
  | .rdRxcrcHi => Sys2Proof.Machine.execRdRxcrcHi s
  | .wrRxcrcHi d => Sys2Proof.Machine.execWrRxcrcHi d s
  | .rdCalccrcLo => Sys2Proof.Machine.execRdCalccrcLo s
  | .wrCalccrcLo d => Sys2Proof.Machine.execWrCalccrcLo d s
  | .rdCalccrcHi => Sys2Proof.Machine.execRdCalccrcHi s
  | .wrCalccrcHi d => Sys2Proof.Machine.execWrCalccrcHi d s
  | .rdHdr0 => Sys2Proof.Machine.execRdHdr0 s
  | .wrHdr0 d => Sys2Proof.Machine.execWrHdr0 d s
  | .rdHdr1 => Sys2Proof.Machine.execRdHdr1 s
  | .wrHdr1 d => Sys2Proof.Machine.execWrHdr1 d s
  | .rdHdr2 => Sys2Proof.Machine.execRdHdr2 s
  | .wrHdr2 d => Sys2Proof.Machine.execWrHdr2 d s
  | .rdHdr3 => Sys2Proof.Machine.execRdHdr3 s
  | .wrHdr3 d => Sys2Proof.Machine.execWrHdr3 d s
  | .rdHdr4 => Sys2Proof.Machine.execRdHdr4 s
  | .wrHdr4 d => Sys2Proof.Machine.execWrHdr4 d s
  | .rdHdr5 => Sys2Proof.Machine.execRdHdr5 s
  | .wrHdr5 d => Sys2Proof.Machine.execWrHdr5 d s
  | .rdReserved0B => Sys2Proof.Machine.execRdReserved0B s
  | .wrReserved0B d => Sys2Proof.Machine.execWrReserved0B d s
  | .rdReserved26 low => Sys2Proof.Machine.execRdReserved26 low s
  | .wrReserved26 low d => Sys2Proof.Machine.execWrReserved26 low d s
  | .rdReserved28 low => Sys2Proof.Machine.execRdReserved28 low s
  | .wrReserved28 low d => Sys2Proof.Machine.execWrReserved28 low d s
  | .rdReserved30 low => Sys2Proof.Machine.execRdReserved30 low s
  | .wrReserved30 low d => Sys2Proof.Machine.execWrReserved30 low d s
  | .rdReserved40 low => Sys2Proof.Machine.execRdReserved40 low s
  | .wrReserved40 low d => Sys2Proof.Machine.execWrReserved40 low d s
  | .rdReserved80 low => Sys2Proof.Machine.execRdReserved80 low s
  | .wrReserved80 low d => Sys2Proof.Machine.execWrReserved80 low d s
  | .txFrame => Sys2Proof.Machine.execTxFrame s
  | .txAck => Sys2Proof.Machine.execTxAck s
  | .txNak => Sys2Proof.Machine.execTxNak s
  | .rxAck => Sys2Proof.Machine.execRxAck s
  | .rxNak => Sys2Proof.Machine.execRxNak s
  | .rxDiscard b => Sys2Proof.Machine.execRxDiscard b s
  | .rxFrame b => Sys2Proof.Machine.execRxFrame b s
  | .svcIdent => Sys2Proof.Machine.execSvcIdent s
  | .svcTerminate => Sys2Proof.Machine.execSvcTerminate s
  | .svcFullRead => Sys2Proof.Machine.execSvcFullRead s
  | .svcFullWrite => Sys2Proof.Machine.execSvcFullWrite s
  | .svcPartialWrite => Sys2Proof.Machine.execSvcPartialWrite s
  | .svcLogon => Sys2Proof.Machine.execSvcLogon s
  | .svcSecurity => Sys2Proof.Machine.execSvcSecurity s
  | .svcLogoff => Sys2Proof.Machine.execSvcLogoff s
  | .svcNegotiate => Sys2Proof.Machine.execSvcNegotiate s

end Sys2Proof.Machine
end

