-- ==== Sys2Proof/WellFormed.lean ====
section
/-! DEFINITION. Well-formed instructions: the one range the types of the operands do not already give. -/

namespace Sys2Proof

/-- A discarded byte is "any other value" than ACK and NAK (30_encoding R91): the rows RX_ACK and RX_NAK take
precedence over RX_DISCARD. Every other operand takes each value of its type. -/
def Instr.wf : Instr → Bool
  | .rxDiscard b => b != Config.ack && b != Config.nak
  | _ => true

end Sys2Proof
end

