-- ==== Sys2Proof/Decode.lean ====
section
/-! DEFINITION. Decoding and encoding (30_encoding): from the bytes of an access word, a link symbol or a service code
to the instruction, and back. A code word's bytes stand with bits 7..0 first, as opcode_table.json numbers its bits; its
`Format` is what the table's column "format" says beside the bits, and what the block has from its bus strobes and from
the sequencer state: the bits alone do not tell a read from a write, nor a received symbol from a transmitted one. -/

namespace Sys2Proof

/-- The table's five formats, WIRE_RX in two: "The engine interprets a received byte as a link symbol only in state
AWAIT_ACK; in the READ states every byte is frame content" (R90). -/
inductive Format where
  | hostWr
  | hostRd
  | wireTx
  | rxAwait
  | rxFrame
  | payloadSvc
deriving DecidableEq, Repr

/-- A code word: its format and its bytes, bits 7..0 first. -/
structure CodeWord where
  fmt : Format
  bytes : List Byte
deriving DecidableEq, Repr

/-- Why a code word is no instruction. -/
inductive DecodeError where
  /-- The number of bytes is not the format's: two for a host access (R96), one for a symbol or a code. -/
  | wrongLength
  /-- No frame or symbol the engine transmits begins with this byte (R183): not STP, ACK or NAK. -/
  | notATransmitSymbol (b : Byte)
  /-- The table names no service of this code (R92); the host writes it with WR SVC. -/
  | noNamedService (b : Byte)
deriving DecidableEq, Repr

/-- Command codes (R97, R98). -/
def decodeCommand (c : Byte) : Instr :=
  match c.toNat with
  | 0x00 => .cmdNop
  | 0x01 => .cmdExchange
  | 0x02 => .cmdSessionInit
  | 0x03 => .cmdClrFlags
  | 0x04 => .cmdCrcInit
  | 0x05 => .cmdTckInit
  | _ =>
    if c.toNat < 0x08 then .cmdReserved06 (c.extractLsb' 0 1)
    else if c.toNat < 0x10 then .cmdReserved08 (c.extractLsb' 0 3)
    else if c.toNat < 0x20 then .cmdReserved10 (c.extractLsb' 0 4)
    else if c.toNat < 0x40 then .cmdReserved20 (c.extractLsb' 0 5)
    else if c.toNat < 0x80 then .cmdReserved40 (c.extractLsb' 0 6)
    else .cmdReserved80 (c.extractLsb' 0 7)

/-- A write access `WR a, d` (R96), by the map of 20_memory R67. -/
def decodeWrite (a d : Byte) : Instr :=
  match a.toNat with
  | 0x00 => decodeCommand d
  | 0x01 => .wrStat d
  | 0x02 => .wrErrCode d
  | 0x03 => .wrCfg d
  | 0x04 => .wrSeq d
  | 0x05 => .wrSvc d
  | 0x06 => .wrTxPlenLo d
  | 0x07 => .wrTxPlenHi d
  | 0x08 => .wrTxPtrLo d
  | 0x09 => .wrTxPtrHi d
  | 0x0A => .wrTxData d
  | 0x0C => .wrRxLenLo d
  | 0x0D => .wrRxLenHi d
  | 0x0E => .wrRxPtrLo d
  | 0x0F => .wrRxPtrHi d
  | 0x10 => .wrRxData d
  | 0x11 => .wrStatus d
  | 0x12 => .wrFragCnt d
  | 0x13 => .wrNakCnt d
  | 0x14 => .wrFlags2 d
  | 0x15 => .wrCrcData d
  | 0x16 => .wrCrcResLo d
  | 0x17 => .wrCrcResHi d
  | 0x18 => .wrCrcChkLo d
  | 0x19 => .wrCrcChkHi d
  | 0x1A => .wrTckData d
  | 0x1B => .wrTckRes d
  | 0x1C => .wrRxcrcLo d
  | 0x1D => .wrRxcrcHi d
  | 0x1E => .wrCalccrcLo d
  | 0x1F => .wrCalccrcHi d
  | 0x20 => .wrHdr0 d
  | 0x21 => .wrHdr1 d
  | 0x22 => .wrHdr2 d
  | 0x23 => .wrHdr3 d
  | 0x24 => .wrHdr4 d
  | 0x25 => .wrHdr5 d
  | 0x0B => .wrReserved0B d
  | _ =>
    if a.toNat < 0x28 then .wrReserved26 (a.extractLsb' 0 1) d
    else if a.toNat < 0x30 then .wrReserved28 (a.extractLsb' 0 3) d
    else if a.toNat < 0x40 then .wrReserved30 (a.extractLsb' 0 4) d
    else if a.toNat < 0x80 then .wrReserved40 (a.extractLsb' 0 6) d
    else .wrReserved80 (a.extractLsb' 0 7) d

/-- A read access `RD a` (R96), by the map of 20_memory R67. -/
def decodeRead (a : Byte) : Instr :=
  match a.toNat with
  | 0x00 => .rdCmd
  | 0x01 => .rdStat
  | 0x02 => .rdErrCode
  | 0x03 => .rdCfg
  | 0x04 => .rdSeq
  | 0x05 => .rdSvc
  | 0x06 => .rdTxPlenLo
  | 0x07 => .rdTxPlenHi
  | 0x08 => .rdTxPtrLo
  | 0x09 => .rdTxPtrHi
  | 0x0A => .rdTxData
  | 0x0C => .rdRxLenLo
  | 0x0D => .rdRxLenHi
  | 0x0E => .rdRxPtrLo
  | 0x0F => .rdRxPtrHi
  | 0x10 => .rdRxData
  | 0x11 => .rdStatus
  | 0x12 => .rdFragCnt
  | 0x13 => .rdNakCnt
  | 0x14 => .rdFlags2
  | 0x15 => .rdCrcData
  | 0x16 => .rdCrcResLo
  | 0x17 => .rdCrcResHi
  | 0x18 => .rdCrcChkLo
  | 0x19 => .rdCrcChkHi
  | 0x1A => .rdTckData
  | 0x1B => .rdTckRes
  | 0x1C => .rdRxcrcLo
  | 0x1D => .rdRxcrcHi
  | 0x1E => .rdCalccrcLo
  | 0x1F => .rdCalccrcHi
  | 0x20 => .rdHdr0
  | 0x21 => .rdHdr1
  | 0x22 => .rdHdr2
  | 0x23 => .rdHdr3
  | 0x24 => .rdHdr4
  | 0x25 => .rdHdr5
  | 0x0B => .rdReserved0B
  | _ =>
    if a.toNat < 0x28 then .rdReserved26 (a.extractLsb' 0 1)
    else if a.toNat < 0x30 then .rdReserved28 (a.extractLsb' 0 3)
    else if a.toNat < 0x40 then .rdReserved30 (a.extractLsb' 0 4)
    else if a.toNat < 0x80 then .rdReserved40 (a.extractLsb' 0 6)
    else .rdReserved80 (a.extractLsb' 0 7)

/-- The first byte of what the engine transmits: a frame begins with STP (R81), ACK and NAK are symbols (R90). -/
def decodeTransmit (b : Byte) : Except DecodeError Instr :=
  if b = Config.stp then .ok .txFrame
  else if b = Config.ack then .ok .txAck
  else if b = Config.nak then .ok .txNak
  else .error (.notATransmitSymbol b)

/-- A byte received in AWAIT_ACK (R91). -/
def decodeAwait (b : Byte) : Instr :=
  if b = Config.ack then .rxAck
  else if b = Config.nak then .rxNak
  else .rxDiscard b

/-- A service code of the table (R92). -/
def decodeService (b : Byte) : Except DecodeError Instr :=
  match b.toNat with
  | 0x20 => .ok .svcIdent
  | 0x21 => .ok .svcTerminate
  | 0x30 => .ok .svcFullRead
  | 0x40 => .ok .svcFullWrite
  | 0x4F => .ok .svcPartialWrite
  | 0x50 => .ok .svcLogon
  | 0x51 => .ok .svcSecurity
  | 0x52 => .ok .svcLogoff
  | 0x61 => .ok .svcNegotiate
  | _ => .error (.noNamedService b)

/-- The decoder: total on every format and every list of bytes. The low byte of a read's word is the byte the read
RETURNS (R96), a result: the decoder looks only at the address (log 10). -/
def decode : CodeWord → Except DecodeError Instr
  | ⟨.hostWr, [d, a]⟩ => .ok (decodeWrite a d)
  | ⟨.hostRd, [_, a]⟩ => .ok (decodeRead a)
  | ⟨.wireTx, [b]⟩ => decodeTransmit b
  | ⟨.rxAwait, [b]⟩ => .ok (decodeAwait b)
  | ⟨.rxFrame, [b]⟩ => .ok (.rxFrame b)
  | ⟨.payloadSvc, [b]⟩ => decodeService b
  | _ => .error .wrongLength

/-- The word of a write access (R96). -/
def writeWord (a d : Byte) : CodeWord := ⟨.hostWr, [d, a]⟩

/-- The word of a read access, its data byte (the byte returned) left 0x00 (R96, log 10). -/
def readWord (a : Byte) : CodeWord := ⟨.hostRd, [0x00#8, a]⟩

/-- The encoder: the code word of an instruction (R92, R96, R97, R90). -/
def encode : Instr → CodeWord
  | .cmdNop => writeWord 0x00#8 0x00#8
  | .cmdExchange => writeWord 0x00#8 0x01#8
  | .cmdSessionInit => writeWord 0x00#8 0x02#8
  | .cmdClrFlags => writeWord 0x00#8 0x03#8
  | .cmdCrcInit => writeWord 0x00#8 0x04#8
  | .cmdTckInit => writeWord 0x00#8 0x05#8
  | .cmdReserved06 low => writeWord 0x00#8 (0x03#7 ++ low)
  | .cmdReserved08 low => writeWord 0x00#8 (0x01#5 ++ low)
  | .cmdReserved10 low => writeWord 0x00#8 (0x01#4 ++ low)
  | .cmdReserved20 low => writeWord 0x00#8 (0x01#3 ++ low)
  | .cmdReserved40 low => writeWord 0x00#8 (0x01#2 ++ low)
  | .cmdReserved80 low => writeWord 0x00#8 (0x01#1 ++ low)
  | .rdCmd => readWord 0x00#8
  | .rdStat => readWord 0x01#8
  | .wrStat d => writeWord 0x01#8 d
  | .rdErrCode => readWord 0x02#8
  | .wrErrCode d => writeWord 0x02#8 d
  | .rdCfg => readWord 0x03#8
  | .wrCfg d => writeWord 0x03#8 d
  | .rdSeq => readWord 0x04#8
  | .wrSeq d => writeWord 0x04#8 d
  | .rdSvc => readWord 0x05#8
  | .wrSvc d => writeWord 0x05#8 d
  | .rdTxPlenLo => readWord 0x06#8
  | .wrTxPlenLo d => writeWord 0x06#8 d
  | .rdTxPlenHi => readWord 0x07#8
  | .wrTxPlenHi d => writeWord 0x07#8 d
  | .rdTxPtrLo => readWord 0x08#8
  | .wrTxPtrLo d => writeWord 0x08#8 d
  | .rdTxPtrHi => readWord 0x09#8
  | .wrTxPtrHi d => writeWord 0x09#8 d
  | .rdTxData => readWord 0x0A#8
  | .wrTxData d => writeWord 0x0A#8 d
  | .rdRxLenLo => readWord 0x0C#8
  | .wrRxLenLo d => writeWord 0x0C#8 d
  | .rdRxLenHi => readWord 0x0D#8
  | .wrRxLenHi d => writeWord 0x0D#8 d
  | .rdRxPtrLo => readWord 0x0E#8
  | .wrRxPtrLo d => writeWord 0x0E#8 d
  | .rdRxPtrHi => readWord 0x0F#8
  | .wrRxPtrHi d => writeWord 0x0F#8 d
  | .rdRxData => readWord 0x10#8
  | .wrRxData d => writeWord 0x10#8 d
  | .rdStatus => readWord 0x11#8
  | .wrStatus d => writeWord 0x11#8 d
  | .rdFragCnt => readWord 0x12#8
  | .wrFragCnt d => writeWord 0x12#8 d
  | .rdNakCnt => readWord 0x13#8
  | .wrNakCnt d => writeWord 0x13#8 d
  | .rdFlags2 => readWord 0x14#8
  | .wrFlags2 d => writeWord 0x14#8 d
  | .rdCrcData => readWord 0x15#8
  | .wrCrcData d => writeWord 0x15#8 d
  | .rdCrcResLo => readWord 0x16#8
  | .wrCrcResLo d => writeWord 0x16#8 d
  | .rdCrcResHi => readWord 0x17#8
  | .wrCrcResHi d => writeWord 0x17#8 d
  | .rdCrcChkLo => readWord 0x18#8
  | .wrCrcChkLo d => writeWord 0x18#8 d
  | .rdCrcChkHi => readWord 0x19#8
  | .wrCrcChkHi d => writeWord 0x19#8 d
  | .rdTckData => readWord 0x1A#8
  | .wrTckData d => writeWord 0x1A#8 d
  | .rdTckRes => readWord 0x1B#8
  | .wrTckRes d => writeWord 0x1B#8 d
  | .rdRxcrcLo => readWord 0x1C#8
  | .wrRxcrcLo d => writeWord 0x1C#8 d
  | .rdRxcrcHi => readWord 0x1D#8
  | .wrRxcrcHi d => writeWord 0x1D#8 d
  | .rdCalccrcLo => readWord 0x1E#8
  | .wrCalccrcLo d => writeWord 0x1E#8 d
  | .rdCalccrcHi => readWord 0x1F#8
  | .wrCalccrcHi d => writeWord 0x1F#8 d
  | .rdHdr0 => readWord 0x20#8
  | .wrHdr0 d => writeWord 0x20#8 d
  | .rdHdr1 => readWord 0x21#8
  | .wrHdr1 d => writeWord 0x21#8 d
  | .rdHdr2 => readWord 0x22#8
  | .wrHdr2 d => writeWord 0x22#8 d
  | .rdHdr3 => readWord 0x23#8
  | .wrHdr3 d => writeWord 0x23#8 d
  | .rdHdr4 => readWord 0x24#8
  | .wrHdr4 d => writeWord 0x24#8 d
  | .rdHdr5 => readWord 0x25#8
  | .wrHdr5 d => writeWord 0x25#8 d
  | .rdReserved0B => readWord 0x0B#8
  | .wrReserved0B d => writeWord 0x0B#8 d
  | .rdReserved26 low => readWord (0x13#7 ++ low)
  | .wrReserved26 low d => writeWord (0x13#7 ++ low) d
  | .rdReserved28 low => readWord (0x05#5 ++ low)
  | .wrReserved28 low d => writeWord (0x05#5 ++ low) d
  | .rdReserved30 low => readWord (0x03#4 ++ low)
  | .wrReserved30 low d => writeWord (0x03#4 ++ low) d
  | .rdReserved40 low => readWord (0x01#2 ++ low)
  | .wrReserved40 low d => writeWord (0x01#2 ++ low) d
  | .rdReserved80 low => readWord (0x01#1 ++ low)
  | .wrReserved80 low d => writeWord (0x01#1 ++ low) d
  | .txFrame => ⟨.wireTx, [Config.stp]⟩
  | .txAck => ⟨.wireTx, [Config.ack]⟩
  | .txNak => ⟨.wireTx, [Config.nak]⟩
  | .rxAck => ⟨.rxAwait, [Config.ack]⟩
  | .rxNak => ⟨.rxAwait, [Config.nak]⟩
  | .rxDiscard b => ⟨.rxAwait, [b]⟩
  | .rxFrame b => ⟨.rxFrame, [b]⟩
  | .svcIdent => ⟨.payloadSvc, [0x20#8]⟩
  | .svcTerminate => ⟨.payloadSvc, [0x21#8]⟩
  | .svcFullRead => ⟨.payloadSvc, [0x30#8]⟩
  | .svcFullWrite => ⟨.payloadSvc, [0x40#8]⟩
  | .svcPartialWrite => ⟨.payloadSvc, [0x4F#8]⟩
  | .svcLogon => ⟨.payloadSvc, [0x50#8]⟩
  | .svcSecurity => ⟨.payloadSvc, [0x51#8]⟩
  | .svcLogoff => ⟨.payloadSvc, [0x52#8]⟩
  | .svcNegotiate => ⟨.payloadSvc, [0x61#8]⟩

/-- Byte `k` of the bits `w`, byte 0 the least significant. -/
def byteOfBits (w k : Nat) : Byte := BitVec.ofNat 8 (w / 256 ^ k)

/-- The code word that bits without a bus direction stand for (log 11): sixteen bits are a host WRITE; eight bits are
a named service code, the STP of a response frame, or a byte received in AWAIT_ACK. -/
def tableWord (nbits w : Nat) : Option CodeWord :=
  if nbits ≤ 8 then
    let b := byteOfBits w 0
    if (decodeService b).isOk then some ⟨.payloadSvc, [b]⟩
    else if b = Config.stp then some ⟨.rxFrame, [b]⟩
    else some ⟨.rxAwait, [b]⟩
  else if nbits ≤ 16 then some ⟨.hostWr, [byteOfBits w 0, byteOfBits w 1]⟩
  else none

/-- The instruction the decoder reads from the bits of an opcode-table word (log 11). -/
def decodeTableWord (nbits w : Nat) : Option Instr :=
  match tableWord nbits w with
  | some c => (decode c).toOption
  | none => none

end Sys2Proof
end

