-- ==== Sys2Proof/Machine/Fetch.lean ====
section
/-! DEFINITION. What the next step is (00_scope R15): the agent whose turn it is, and the instruction it runs. The host's
turn decodes the access it makes; the engine's turn decodes the byte the transport delivers, in the format its state
gives it (30_encoding R90), or is the transition of a state or answer that the opcode table gives no row (log 16). -/

namespace Sys2Proof.Machine

/-- What the agent whose turn it is does: it runs an instruction on the state with its input taken, or its whole
transition is the state given. -/
inductive Fetched where
  | run (i : Instr) (s : State)
  | moved (s : State)
deriving DecidableEq, Repr

/-- The code word of a host access (30_encoding R96, R92). -/
def HostAccess.word : HostAccess → CodeWord
  | .wr a d => writeWord a d
  | .rd a => readWord a
  | .svc b => ⟨.payloadSvc, [b]⟩

/-- The access a service code stands for: "the host writes the service code to SVC" (30_encoding R92), address 0x05. -/
def serviceWrite : HostAccess → CodeWord
  | .svc b => writeWord 0x05#8 b
  | a => a.word

/-- The instruction of a host access. A service code without a row is a plain write of SVC, where "any value is legal"
(43_host_interface R226, log 13). -/
def HostAccess.decoded (a : HostAccess) : Except DecodeError Instr :=
  match decode a.word with
  | .ok i => .ok i
  | .error _ => decode (serviceWrite a)

/-- The format a received byte has in a state (30_encoding R90): a link symbol in AWAIT_ACK, else frame content. -/
def SeqState.rxFormat : SeqState → Format
  | .awaitAck => .rxAwait
  | _ => .rxFrame

/-- The host's turn: it makes its next access (43_host_interface R210), if it has one to make. -/
def State.fetchHost (s : State) : Fetched :=
  match s.env.hostQ with
  | [] => .moved s
  | a :: q =>
    match a.decoded with
    | .ok i => .run i (s.tookAccess q)
    | .error _ => .moved (s.tookAccess q)

/-- The engine's turn in a receive state: `RxByte()` (20_memory R74). A byte is an instruction; Timeout raises TIMEOUT and
RxIoErr raises IO_ERROR (42_link_sequencer R170, R181). While the transport has not answered, the engine waits. -/
def State.fetchRx (s : State) : Fetched :=
  match s.env.rxQ with
  | [] => .moved s
  | .byte b :: q =>
    match decode ⟨s.st.rxFormat, [b]⟩ with
    | .ok i => .run i (s.tookRx q)
    | .error _ => .moved (s.tookRx q)
  | .timeout :: q => .moved ((s.tookRx q).raiseError .timeout)
  | .ioErr :: q => .moved ((s.tookRx q).raiseError .ioError)

/-- The engine's turn (42_link_sequencer R160): in IDLE no step (R186), in a transmit state the transmit of that state,
in a receive state a receive, in VALIDATE its internal step. -/
def State.fetchEngine (s : State) : Fetched :=
  match s.st with
  | .idle => .moved s
  | .send => .run .txFrame s
  | .sendNak => .run .txNak s
  | .sendAck => .run .txAck s
  | .validate => .moved s.validateFrag
  | .awaitAck => s.fetchRx
  | .readHeader => s.fetchRx
  | .readBody => s.fetchRx
  | .readCrc => s.fetchRx

/-- The next step: the first turn of the schedule. With no turn to come, no agent moves (log 1). -/
def State.fetch (s : State) : Fetched :=
  match s.env.turns with
  | [] => .moved s
  | .host :: ts => (s.tookTurn ts).fetchHost
  | .engine :: ts => (s.tookTurn ts).fetchEngine
  | .reset :: ts => .moved (s.tookTurn ts).resetBlock

/-- The environment with a host access placed as the very next step (log 2). -/
def State.placeAccess (s : State) (a : HostAccess) : State :=
  { s with env := { s.env with turns := .host :: s.env.turns, hostQ := a :: s.env.hostQ } }

/-- The environment with a received byte placed as the very next step, the engine in the state that takes it (log 12). -/
def State.placeByte (s : State) (st : SeqState) (b : Byte) : State :=
  { s with st := st, env := { s.env with turns := .engine :: s.env.turns, rxQ := .byte b :: s.env.rxQ } }

/-- The state in which the very next step runs a code word (log 11, 12). A word the engine transmits is not placed: it
is the engine that makes it. -/
def State.placeWord (s : State) : CodeWord → State
  | ⟨.hostWr, [d, a]⟩ => s.placeAccess (.wr a d)
  | ⟨.hostRd, [_, a]⟩ => s.placeAccess (.rd a)
  | ⟨.payloadSvc, [b]⟩ => s.placeAccess (.svc b)
  | ⟨.rxAwait, [b]⟩ => s.placeByte .awaitAck b
  | ⟨.rxFrame, [b]⟩ => s.placeByte .readHeader b
  | _ => s

end Sys2Proof.Machine
end

