-- ==== Sys2Proof/Machine/Step.lean ====
section
/-! DEFINITION. One step of the machine: one atomic transition of one agent (00_scope R15, 20_memory R70). -/

namespace Sys2Proof.Machine

/-- One step: the agent whose turn it is runs its instruction, or makes the transition that has no row. -/
def step (s : State) : Host.Outcome State Fault Refusal :=
  match s.fetch with
  | .run i t => exec i t
  | .moved t => .next t

/-- `s` with the bits of an opcode-table word placed where the very next step takes its instruction (log 11, 12). -/
def State.withFetchWord (s : State) (nbits w : Nat) : State :=
  match tableWord nbits w with
  | some c => s.placeWord c
  | none => s

end Sys2Proof.Machine
end

