-- ==== Sys2Proof/Safety.lean ====
section
/-! DEFINITION. What counts as a safe state and a safe run, in the terms the statements use: the invariant of every
reachable state (10_state R44, with what it rests on), the meaning of the receive CRC register (42_link_sequencer R176),
the values ERR_CODE can hold (60_exceptions R252), and runs of many steps. -/

namespace Sys2Proof.Machine

/-- ERR_CODE after reset, SESSION_INIT or an accepted EXCHANGE, and "every value ERR_CODE can hold after an error" (R252). -/
def legalErrCodes : List Byte :=
  [0x00#8, 0x06#8, 0x11#8, 0x21#8, 0x22#8, 0x25#8, 0x31#8, 0x41#8, 0x42#8, 0x43#8, 0x47#8, 0x51#8, 0x52#8,
    0x61#8, 0x62#8, 0x74#8, 0x81#8]

/-- Every index listed is below `n`. -/
def Memory.below (m : Memory) (n : Nat) : Bool := m.all fun c => decide (c.1 < n)

/-- Every index from `i` up to `j - 1` has been written. -/
def Memory.written (m : Memory) (i j : Nat) : Prop := ∀ k, i ≤ k → k < j → (m.read k).isSome = true

/-- The invariant of every reachable state: R44 (its transport line is a property of the ports, not of a state), the
canonical form of the buffers, and the ranges of the internal registers (R41) in the states that read them. -/
structure State.Inv (s : State) : Prop where
  /-- R8, R11: the parameters are in their ranges. -/
  params : s.par.ok = true
  /-- R44: "DONE and ERR are never both 1". -/
  doneErr : (s.done && s.err) = false
  /-- R44: while busy DONE and ERR are 0; and ERR_CODE is 0, cleared at acceptance (R215). -/
  busyClean : s.busy = true → s.done = false ∧ s.err = false ∧ s.errCode = 0x00#8
  /-- R252: ERR_CODE holds a legal value, not 0 when ERR is 1. -/
  errLegal : s.errCode ∈ legalErrCodes ∧ (s.err = true → s.errCode ≠ 0x00#8)
  /-- R22: REJECTED is 1 when STATUS_VALID is 1 and STATUS is not 0x00. -/
  rejectedIff : s.rejected = (s.statusValid && s.status != 0x00#8)
  /-- R44: STATUS_VALID = 0 implies STATUS = 0x00. -/
  statusZero : s.statusValid = false → s.status = 0x00#8
  /-- R44, R32: RX_LEN <= REASM_CAP. -/
  rxLenCap : s.rxLen.toNat ≤ s.par.reasmCap.toNat
  /-- TX_BUF is canonical and inside its range (R30, R60). -/
  txBufOk : s.txBuf.wf = true ∧ s.txBuf.below Config.txCap = true
  /-- RX_BUF is canonical and inside its range (R31, R60). -/
  rxBufOk : s.rxBuf.wf = true ∧ s.rxBuf.below s.par.reasmCap.toNat = true
  /-- R282: "Every byte at an index `< RX_LEN` was written by READ_BODY". -/
  committed : s.rxBuf.written 0 s.rxLen.toNat
  /-- R131, R230: the payload length of an accepted exchange is at most TXCAP. -/
  plenCap : s.busy = true → s.txPlen.toNat ≤ Config.txCap
  /-- R164: in SEND a byte of TxFrame is left to send. -/
  inSend : s.st = .send → s.txIdx.toNat < s.frameLen
  /-- R44: `disc_cnt < N_DISCARD` in AWAIT_ACK. -/
  inAwait : s.st = .awaitAck → s.discCnt < s.par.nDiscard
  /-- R169: with a finite NAK_ROUNDS_MAX no more NAK rounds than that. -/
  nakBound : ∀ k, s.par.nakRoundsMax = some k →
    (s.st = .awaitAck → s.nakRounds.toNat ≤ k.val) ∧ (s.st = .sendNak → s.nakRounds.toNat < k.val)
  /-- R162, R172: in READ_HEADER fewer than six header bytes are in. -/
  inHeader : s.st = .readHeader → s.hdrIdx < Config.hdrLen ∧ s.bodyIdx = 0#16 ∧ s.crcIdx = 0
  /-- R44, R174: in READ_BODY a data byte is left, the fragment fits, and the bytes read so far are stored. -/
  inBody : s.st = .readBody →
    s.bodyIdx.toNat < s.fragLen.toNat ∧ s.rxLen.toNat + s.fragLen.toNat ≤ s.par.reasmCap.toNat ∧ s.crcIdx = 0 ∧
      s.rxBuf.written s.rxLen.toNat (s.rxLen.toNat + s.bodyIdx.toNat)
  /-- R175: in READ_CRC fewer than two trailer bytes are in; the fragment fits and its data are stored. -/
  inCrc : s.st = .readCrc →
    s.crcIdx < Config.crcLen ∧ s.rxLen.toNat + s.fragLen.toNat ≤ s.par.reasmCap.toNat ∧
      s.rxBuf.written s.rxLen.toNat (s.rxLen.toNat + s.fragLen.toNat)
  /-- R176: in VALIDATE the fragment fits and its data are stored. -/
  inValidate : s.st = .validate →
    s.rxLen.toNat + s.fragLen.toNat ≤ s.par.reasmCap.toNat ∧
      s.rxBuf.written s.rxLen.toNat (s.rxLen.toNat + s.fragLen.toNat)

/-- The six header bytes in order (R135). -/
def Header.bytes (h : Header) : List Byte := [h.h0, h.h1, h.h2, h.h3, h.h4, h.h5]

/-- The first `n` data bytes of the current fragment, in RX_BUF from RX_LEN on (R174). -/
def State.fragData (s : State) (n : Nat) : List Byte := (List.range n).map fun k => s.rxRead (s.rxLen.toNat + k)

/-- What a complete, checked header has left in the internal registers (R173): its length and more flag, and STP. -/
def State.HeaderTaken (s : State) : Prop :=
  s.fragLen = s.hdr.length ∧ s.more = s.hdr.moreFlag ∧ s.hdr.h0 = Config.stp

/-- `rx_acc` is "the running CRC register over the current fragment" (R41): it "has taken exactly the header and data
bytes since BeginFragment" (R176). -/
structure State.CrcInv (s : State) : Prop where
  inHeader : s.st = .readHeader → s.rxAcc = crcFeed 0xFFFF#16 (s.hdr.bytes.take s.hdrIdx)
  inBody : s.st = .readBody →
    s.HeaderTaken ∧ s.rxAcc = crcFeed 0xFFFF#16 (s.hdr.bytes ++ s.fragData s.bodyIdx.toNat)
  inCrc : s.st = .readCrc →
    s.HeaderTaken ∧ s.rxAcc = crcFeed 0xFFFF#16 (s.hdr.bytes ++ s.fragData s.fragLen.toNat)
  inValidate : s.st = .validate →
    s.HeaderTaken ∧ s.rxAcc = crcFeed 0xFFFF#16 (s.hdr.bytes ++ s.fragData s.fragLen.toNat)

/-- Every payload byte the request needs has been written by TX_DATA (R282). -/
def State.payloadWritten (s : State) : Prop := s.txBuf.written 0 s.txPlen.toNat

/-- A safe step: the machine goes on. The block has no error that stops it (R251); only the model's faults do. -/
def State.safe (s : State) : Prop := ∃ t, step s = .next t

/-- `t` is reached from `s` in `n` steps. -/
def reaches (n : Nat) (s t : State) : Prop := Host.Core.run Sys2Proof.core n s = .next t

/-- The instructions of a list run one after the other, as a host program is (30_encoding R99). -/
def execAll : List Instr → State → Result
  | [], s => .next s
  | i :: is, s =>
    match exec i s with
    | .next t => execAll is t
    | .fault f => .fault f
    | .refused r => .refused r

/-- The registers and buffers that decide TxFrame (41_framer R132). -/
def State.txSource (s : State) : Byte × Byte × Half × Memory × Bool := (s.svc, s.seq, s.txPlen, s.txBuf, s.ctrlBit)

end Sys2Proof.Machine
end

