-- ==== Sys2Proof/Certificates/Slice0/Obligations.lean ====
section
/-! DEFINITION. The statements for the provers. Each docstring names the rules of spec/ it formalises. A next state is
written as the whole state with the fields that change, so every statement of an effect is its frame too: a field not
named is unchanged, and the memory named is given through the read of one byte where a byte is stored. -/

open Sys2Proof Sys2Proof.Machine

/-! ### Encoding and decoding -/

/-- 30_encoding R90 to R92, R96, R97, 20_memory R68: decoding what an instruction encodes to gives it back, for every
operand the encoding admits. -/
def Obligations.DecodeInvertsEncode : Prop :=
  ∀ i : Instr, i.wf = true → decode (encode i) = .ok i

/-- 30_encoding R96: "Every 8-bit address and every data byte forms a valid access": every write word is a well-formed
instruction that encodes to that word, and every read word one that encodes to its address, whatever the data byte. That
a read encodes with data byte 0x00 is the encoder's own convention (DEDUCED, log 10). -/
def Obligations.EveryHostAccessDecodes : Prop :=
  (∀ a d : Byte, ∃ i, decode ⟨.hostWr, [d, a]⟩ = .ok i ∧ i.wf = true ∧ encode i = ⟨.hostWr, [d, a]⟩) ∧
  (∀ a d : Byte, ∃ i, decode ⟨.hostRd, [d, a]⟩ = .ok i ∧ i.wf = true ∧ encode i = ⟨.hostRd, [0x00#8, a]⟩)

/-- 30_encoding R91: how a byte received in AWAIT_ACK decodes. -/
def Obligations.AwaitAckBytesDecode : Prop :=
  ∀ b : Byte, decode ⟨.rxAwait, [b]⟩ =
    .ok (if b = 0x06#8 then .rxAck else if b = 0x15#8 then .rxNak else .rxDiscard b)

/-- 30_encoding R96, R97, R92, R90: words written out from the encodings decode to what they stand for. -/
def Obligations.SampleWordsDecode : Prop :=
  decode ⟨.hostWr, [0x01#8, 0x00#8]⟩ = .ok .cmdExchange ∧ decode ⟨.hostWr, [0x20#8, 0x05#8]⟩ = .ok (.wrSvc 0x20#8) ∧
  decode ⟨.hostRd, [0x1A#8, 0x01#8]⟩ = .ok .rdStat ∧ decode ⟨.hostRd, [0x56#8, 0x1B#8]⟩ = .ok .rdTckRes ∧
  decode ⟨.hostWr, [0x12#8, 0x30#8]⟩ = .ok (.wrReserved30 0#4 0x12#8) ∧ decode ⟨.wireTx, [0xEE#8]⟩ = .ok .txFrame ∧
  decode ⟨.rxAwait, [0xEE#8]⟩ = .ok (.rxDiscard 0xEE#8) ∧ decode ⟨.rxFrame, [0x06#8]⟩ = .ok (.rxFrame 0x06#8) ∧
  decode ⟨.payloadSvc, [0x51#8]⟩ = .ok .svcSecurity

/-! ### A step runs the decoded instruction -/

/-- 43_host_interface R210, R213: in the host's turn a step runs the instruction of the access; a service code the
table does not name is a write of SVC (R226, the model's choice, log 13). -/
def Obligations.HostStepRunsAccess : Prop :=
  ∀ (s : State) (ts : List Turn) (a : HostAccess) (q : List HostAccess),
    s.env.turns = .host :: ts → s.env.hostQ = a :: q →
    (∀ i, decode a.word = .ok i → step s = exec i { s with env := { s.env with turns := ts, hostQ := q } }) ∧
    (∀ b e, a = .svc b → decode a.word = .error e →
      step s = exec (.wrSvc b) { s with env := { s.env with turns := ts, hostQ := q } })

/-- 42_link_sequencer R160, 30_encoding R90: in the engine's turn a step runs the instruction of the byte delivered, a
link symbol in AWAIT_ACK and frame content in the READ states, or the transmit of its state. -/
def Obligations.EngineStepRunsInstruction : Prop :=
  ∀ (s : State) (ts : List Turn), s.env.turns = .engine :: ts →
    (∀ b q i, s.env.rxQ = .byte b :: q → s.st = .awaitAck → decode ⟨.rxAwait, [b]⟩ = .ok i →
      step s = exec i { s with env := { s.env with turns := ts, rxQ := q } }) ∧
    (∀ b q, s.env.rxQ = .byte b :: q → s.st = .readHeader ∨ s.st = .readBody ∨ s.st = .readCrc →
      step s = exec (.rxFrame b) { s with env := { s.env with turns := ts, rxQ := q } }) ∧
    (s.st = .send → step s = exec .txFrame { s with env := { s.env with turns := ts } }) ∧
    (s.st = .sendNak → step s = exec .txNak { s with env := { s.env with turns := ts } }) ∧
    (s.st = .sendAck → step s = exec .txAck { s with env := { s.env with turns := ts } })

/-- What `withFetchWord` places is the instruction the very next step runs: on the same state for a host write or a service
code, in AWAIT_ACK for RX_ACK, RX_NAK and RX_DISCARD, in READ_HEADER for RX_FRAME. The placing is the model's own (DESIGN
CHOICE, log 11, 12); there is no instruction fetch (20_memory R73). -/
def Obligations.PlacedWordRunsNext : Prop :=
  ∀ (s : State) (nbits w : Nat) (i : Instr), decodeTableWord nbits w = some i →
    ∃ c, tableWord nbits w = some c ∧ decode c = .ok i ∧
      step (s.withFetchWord nbits w) = exec i { s with st := (s.placeWord c).st } ∧
      ((c.fmt = .hostWr ∨ c.fmt = .payloadSvc) ∧ (s.placeWord c).st = s.st ∨
        c.fmt = .rxAwait ∧ (s.placeWord c).st = .awaitAck ∨ c.fmt = .rxFrame ∧ (s.placeWord c).st = .readHeader)

/-! ### Checksums and frames -/

/-- 40_checksums R112: the MSB-first form and the right-shift form are one function. -/
def Obligations.MsbFirstCrcIsTheSame : Prop :=
  ∀ s : List Byte, crc16Msb s = crc16 s

/-- 40_checksums R114: the residue property. -/
def Obligations.CrcResidueIsConstant : Prop :=
  ∀ f : List Byte,
    crc16 (f ++ [lo (crc16 f), hi (crc16 f)]) = 0x0F47#16 ∧
    crcFeed 0xFFFF#16 (f ++ [lo (crc16 f), hi (crc16 f)]) = 0xF0B8#16

/-- 40_checksums R116: the closed form of the table checksum. -/
def Obligations.TableChecksumNegatesSum : Prop :=
  ∀ s : List Byte,
    (tck s).toNat = (256 - (s.map BitVec.toNat).sum % 256) % 256 ∧
    ((s.map BitVec.toNat).sum + (tck s).toNat) % 256 = 0

/-- 41_framer R130, R131: what Encode gives, byte by byte, and when it fails. -/
def Obligations.EncodedFrameBytes : Prop :=
  ∀ (svc : Byte) (p : List Byte) (cb : Bool) (seq : Byte),
    (p.length ≤ 8182 →
      ∃ body, body = [0xEE#8, 0x00#8, if cb then 0x20#8 else 0x00#8, seq, BitVec.ofNat 8 ((p.length + 1) / 256),
          BitVec.ofNat 8 (p.length + 1), svc] ++ p ∧
        encodeFrame svc p cb seq =
          some (body ++ [BitVec.ofNat 8 (crc16 body).toNat, BitVec.ofNat 8 ((crc16 body).toNat / 256)])) ∧
    (8182 < p.length → encodeFrame svc p cb seq = none)

/-- 41_framer R134: the round trip, and "the embedded CRC validates". -/
def Obligations.FrameRoundTrip : Prop :=
  ∀ (svc : Byte) (p : List Byte) (cb : Bool) (seq : Byte), p.length ≤ 8182 →
    ∃ f, encodeFrame svc p cb seq = some f ∧ decodeFrame f = .ok ⟨svc, p, cb, seq⟩ ∧
      verifyCrc (f.take (f.length - 2)) (f.getD (f.length - 2) 0#8) (f.getD (f.length - 1) 0#8) = true

/-- 41_framer R130, R133, R139: a frame that Decode accepts, of a length Encode allows and with the identity and control
bytes a request has, is the frame Encode gives for what was decoded. -/
def Obligations.DecodedFrameEncodesBack : Prop :=
  ∀ (f : List Byte) (r : Request), decodeFrame f = .ok r → f.length ≤ 8191 → f.getD 1 0#8 = 0x00#8 →
    (f.getD 2 0#8 = 0x00#8 ∨ f.getD 2 0#8 = 0x20#8) → encodeFrame r.svc r.payload r.ctrl r.seq = some f

/-- 41_framer R132: the bytes the engine sends one by one are those of `Encode(SVC, TX_BUF[0..TX_PLEN-1], CTRL_BIT, SEQ)`. -/
def Obligations.TransmitFrameIsEncoded : Prop :=
  ∀ (s : State) (p : List Byte), s.txPlen.toNat ≤ 8182 → p.length = s.txPlen.toNat →
    (∀ j b, p[j]? = some b → s.txBuf.read j = some b) →
    ∃ f, encodeFrame s.svc p s.ctrlBit s.seq = some f ∧ f.length = s.txPlen.toNat + 9 ∧
      ∀ j b, f[j]? = some b → s.txFrameByte j = .ok b

/-! ### Commands -/

/-- 43_host_interface R214, R219, R220: NOP, CRC_INIT and TCK_INIT, in every state. -/
def Obligations.PlainCommands : Prop :=
  ∀ s : State, exec .cmdNop s = .next s ∧ exec .cmdCrcInit s = .next { s with crcAcc := 0xFFFF#16 } ∧
    exec .cmdTckInit s = .next { s with tckSum := 0x00#8 }

/-- 43_host_interface R215 (and 41_framer R131) and R216: EXCHANGE while not busy, accepted or with a payload too long,
and EXCHANGE while busy. -/
def Obligations.ExchangeAcceptedOrIgnored : Prop :=
  ∀ s : State,
    (s.st = .idle → s.txPlen.toNat ≤ 8182 →
      exec .cmdExchange s = .next { s with
        done := false, err := false, errCode := 0x00#8, statusValid := false, rejected := false, moreLast := false,
        status := 0x00#8, fragCnt := 0x00#8, nakCnt := 0x00#8, rxLen := 0#16, rxPtr := 0#16,
        hdr := ⟨0#8, 0#8, 0#8, 0#8, 0#8, 0#8⟩, rxCrc := 0#16, calcCrc := 0#16, txIdx := 0#14, st := .send }) ∧
    (s.st = .idle → 8182 < s.txPlen.toNat →
      exec .cmdExchange s = .next { s with
        done := false, err := true, errCode := 0x06#8, statusValid := false, rejected := false, moreLast := false,
        status := 0x00#8, fragCnt := 0x00#8, nakCnt := 0x00#8, rxLen := 0#16, rxPtr := 0#16,
        hdr := ⟨0#8, 0#8, 0#8, 0#8, 0#8, 0#8⟩, rxCrc := 0#16, calcCrc := 0#16 }) ∧
    (s.st ≠ .idle → exec .cmdExchange s = .next { s with ign := true })

/-- 43_host_interface R217: SESSION_INIT, accepted and refused. -/
def Obligations.SessionInitClears : Prop :=
  ∀ s : State,
    (s.st = .idle → exec .cmdSessionInit s = .next { s with
      ctrlBit := false, done := false, err := false, errCode := 0x00#8, ign := false, txOvf := false, rxUnf := false }) ∧
    (s.st ≠ .idle → exec .cmdSessionInit s = .next { s with ign := true })

/-- 43_host_interface R218: CLR_FLAGS in every state; `irq` is low after it (60_exceptions R258). -/
def Obligations.ClearFlagsKeepsErrorCode : Prop :=
  ∀ s : State, ∃ t, exec .cmdClrFlags s = .next t ∧ t.irq = false ∧
    t = { s with done := false, err := false, ign := false, txOvf := false, rxUnf := false }

/-- 43_host_interface R221: every command code 0x06..0xFF sets IGN and does nothing else. -/
def Obligations.ReservedCommandsSetIgn : Prop :=
  ∀ s : State,
    (∀ c : Byte, 6 ≤ c.toNat → ∃ i, decode ⟨.hostWr, [c, 0x00#8]⟩ = .ok i ∧ exec i s = .next { s with ign := true }) ∧
    (∀ l, exec (.cmdReserved06 l) s = .next { s with ign := true }) ∧
    (∀ l, exec (.cmdReserved08 l) s = .next { s with ign := true }) ∧
    (∀ l, exec (.cmdReserved10 l) s = .next { s with ign := true }) ∧
    (∀ l, exec (.cmdReserved20 l) s = .next { s with ign := true }) ∧
    (∀ l, exec (.cmdReserved40 l) s = .next { s with ign := true }) ∧
    (∀ l, exec (.cmdReserved80 l) s = .next { s with ign := true })

/-! ### Register accesses -/

/-- 43_host_interface R222, 60_exceptions R257, and 43_host_interface R237, 40_checksums R119: the bytes that reads of
STAT and of FLAGS2 return. -/
def Obligations.FlagRegisterReads : Prop :=
  ∀ s : State,
    exec .rdStat s = .next { s with rdata :=
      ((if s.irqEn = true ∧ (s.done = true ∨ s.err = true) then 1#8 else 0#8) <<< 7) |||
      ((if s.moreLast = true then 1#8 else 0#8) <<< 6) ||| ((if s.rejected = true then 1#8 else 0#8) <<< 5) |||
      ((if s.statusValid = true then 1#8 else 0#8) <<< 4) ||| ((if s.ctrlBit = true then 1#8 else 0#8) <<< 3) |||
      ((if s.err = true then 1#8 else 0#8) <<< 2) ||| ((if s.done = true then 1#8 else 0#8) <<< 1) |||
      (if s.st ≠ .idle then 1#8 else 0#8) } ∧
    exec .rdFlags2 s = .next { s with rdata :=
      ((if s.rxUnf = true then 1#8 else 0#8) <<< 3) ||| ((if s.txOvf = true then 1#8 else 0#8) <<< 2) |||
      ((if s.ign = true then 1#8 else 0#8) <<< 1) ||| (if s.crcAcc ^^^ 0xFFFF#16 = s.crcChk then 1#8 else 0#8) }

/-- 43_host_interface R223, R224, R234 to R236, R239, R240: the reads of the status, counter and diagnostic registers;
of a 16-bit register `_LO` is the value modulo 256, `_HI` the value divided by 256. -/
def Obligations.StatusRegisterReads : Prop :=
  ∀ s : State,
    exec .rdErrCode s = .next { s with rdata := s.errCode } ∧
    exec .rdCfg s = .next { s with rdata := if s.irqEn = true then 1#8 else 0#8 } ∧
    exec .rdStatus s = .next { s with rdata := s.status } ∧
    exec .rdFragCnt s = .next { s with rdata := s.fragCnt } ∧
    exec .rdNakCnt s = .next { s with rdata := s.nakCnt } ∧
    exec .rdRxcrcLo s = .next { s with rdata := BitVec.ofNat 8 s.rxCrc.toNat } ∧
    exec .rdRxcrcHi s = .next { s with rdata := BitVec.ofNat 8 (s.rxCrc.toNat / 256) } ∧
    exec .rdCalccrcLo s = .next { s with rdata := BitVec.ofNat 8 s.calcCrc.toNat } ∧
    exec .rdCalccrcHi s = .next { s with rdata := BitVec.ofNat 8 (s.calcCrc.toNat / 256) } ∧
    exec .rdHdr0 s = .next { s with rdata := s.hdr.h0 } ∧ exec .rdHdr1 s = .next { s with rdata := s.hdr.h1 } ∧
    exec .rdHdr2 s = .next { s with rdata := s.hdr.h2 } ∧ exec .rdHdr3 s = .next { s with rdata := s.hdr.h3 } ∧
    exec .rdHdr4 s = .next { s with rdata := s.hdr.h4 } ∧ exec .rdHdr5 s = .next { s with rdata := s.hdr.h5 }

/-- 43_host_interface R225 to R228, R231, R232, R238: the reads of the request and response registers and of CRC_CHK,
busy or not. -/
def Obligations.RequestResponseReads : Prop :=
  ∀ s : State,
    exec .rdSeq s = .next { s with rdata := s.seq } ∧ exec .rdSvc s = .next { s with rdata := s.svc } ∧
    exec .rdTxPlenLo s = .next { s with rdata := BitVec.ofNat 8 s.txPlen.toNat } ∧
    exec .rdTxPlenHi s = .next { s with rdata := BitVec.ofNat 8 (s.txPlen.toNat / 256) } ∧
    exec .rdTxPtrLo s = .next { s with rdata := BitVec.ofNat 8 s.txPtr.toNat } ∧
    exec .rdTxPtrHi s = .next { s with rdata := BitVec.ofNat 8 (s.txPtr.toNat / 256) } ∧
    exec .rdRxLenLo s = .next { s with rdata := BitVec.ofNat 8 s.rxLen.toNat } ∧
    exec .rdRxLenHi s = .next { s with rdata := BitVec.ofNat 8 (s.rxLen.toNat / 256) } ∧
    exec .rdRxPtrLo s = .next { s with rdata := BitVec.ofNat 8 s.rxPtr.toNat } ∧
    exec .rdRxPtrHi s = .next { s with rdata := BitVec.ofNat 8 (s.rxPtr.toNat / 256) } ∧
    exec .rdCrcChkLo s = .next { s with rdata := BitVec.ofNat 8 s.crcChk.toNat } ∧
    exec .rdCrcChkHi s = .next { s with rdata := BitVec.ofNat 8 (s.crcChk.toNat / 256) }

/-- 43_host_interface R211: write-only registers read 0x00. -/
def Obligations.WriteOnlyReadsZero : Prop :=
  ∀ s : State,
    exec .rdCmd s = .next { s with rdata := 0x00#8 } ∧ exec .rdTxData s = .next { s with rdata := 0x00#8 } ∧
    exec .rdCrcData s = .next { s with rdata := 0x00#8 } ∧ exec .rdTckData s = .next { s with rdata := 0x00#8 }

/-- 43_host_interface R212: a write to a read-only address changes nothing, FLAGS2 included. -/
def Obligations.ReadOnlyWritesIgnored : Prop :=
  ∀ (s : State) (d : Byte),
    exec (.wrStat d) s = .next s ∧ exec (.wrErrCode d) s = .next s ∧ exec (.wrRxLenLo d) s = .next s ∧
    exec (.wrRxLenHi d) s = .next s ∧ exec (.wrRxData d) s = .next s ∧ exec (.wrStatus d) s = .next s ∧
    exec (.wrFragCnt d) s = .next s ∧ exec (.wrNakCnt d) s = .next s ∧ exec (.wrFlags2 d) s = .next s ∧
    exec (.wrCrcResLo d) s = .next s ∧ exec (.wrCrcResHi d) s = .next s ∧ exec (.wrTckRes d) s = .next s ∧
    exec (.wrRxcrcLo d) s = .next s ∧ exec (.wrRxcrcHi d) s = .next s ∧ exec (.wrCalccrcLo d) s = .next s ∧
    exec (.wrCalccrcHi d) s = .next s ∧ exec (.wrHdr0 d) s = .next s ∧ exec (.wrHdr1 d) s = .next s ∧
    exec (.wrHdr2 d) s = .next s ∧ exec (.wrHdr3 d) s = .next s ∧ exec (.wrHdr4 d) s = .next s ∧
    exec (.wrHdr5 d) s = .next s

/-- 20_memory R68: every reserved address (0x0B and 0x26..0xFF) reads 0x00 and ignores a write, with no flag. -/
def Obligations.ReservedAddressesInert : Prop :=
  ∀ (s : State) (d : Byte),
    (∀ a : Byte, a = 0x0B#8 ∨ 0x26 ≤ a.toNat →
      ∃ r w, decode ⟨.hostRd, [d, a]⟩ = .ok r ∧ exec r s = .next { s with rdata := 0x00#8 } ∧
        decode ⟨.hostWr, [d, a]⟩ = .ok w ∧ exec w s = .next s) ∧
    exec .rdReserved0B s = .next { s with rdata := 0x00#8 } ∧ exec (.wrReserved0B d) s = .next s ∧
    (∀ l, exec (.rdReserved26 l) s = .next { s with rdata := 0x00#8 } ∧ exec (.wrReserved26 l d) s = .next s) ∧
    (∀ l, exec (.rdReserved28 l) s = .next { s with rdata := 0x00#8 } ∧ exec (.wrReserved28 l d) s = .next s) ∧
    (∀ l, exec (.rdReserved30 l) s = .next { s with rdata := 0x00#8 } ∧ exec (.wrReserved30 l d) s = .next s) ∧
    (∀ l, exec (.rdReserved40 l) s = .next { s with rdata := 0x00#8 } ∧ exec (.wrReserved40 l d) s = .next s) ∧
    (∀ l, exec (.rdReserved80 l) s = .next { s with rdata := 0x00#8 } ∧ exec (.wrReserved80 l d) s = .next s)

/-- 43_host_interface R224, R232, R238: the writes allowed in every state: CFG, RX_PTR, CRC_CHK. -/
def Obligations.AlwaysWritableRegisters : Prop :=
  ∀ (s : State) (d : Byte),
    exec (.wrCfg d) s = .next { s with irqEn := decide (d.toNat % 2 = 1) } ∧
    exec (.wrRxPtrLo d) s = .next { s with rxPtr := (s.rxPtr &&& 0xFF00#16) ||| d.setWidth 16 } ∧
    exec (.wrRxPtrHi d) s = .next { s with rxPtr := (s.rxPtr &&& 0x00FF#16) ||| (d.setWidth 16 <<< 8) } ∧
    exec (.wrCrcChkLo d) s = .next { s with crcChk := (s.crcChk &&& 0xFF00#16) ||| d.setWidth 16 } ∧
    exec (.wrCrcChkHi d) s = .next { s with crcChk := (s.crcChk &&& 0x00FF#16) ||| (d.setWidth 16 <<< 8) }

/-- 43_host_interface R225 to R228: the writes of the TX group while not busy. -/
def Obligations.RequestWritesWhileIdle : Prop :=
  ∀ (s : State) (d : Byte), s.st = .idle →
    exec (.wrSeq d) s = .next { s with seq := d } ∧ exec (.wrSvc d) s = .next { s with svc := d } ∧
    exec (.wrTxPlenLo d) s = .next { s with txPlen := (s.txPlen &&& 0xFF00#16) ||| d.setWidth 16 } ∧
    exec (.wrTxPlenHi d) s = .next { s with txPlen := (s.txPlen &&& 0x00FF#16) ||| (d.setWidth 16 <<< 8) } ∧
    exec (.wrTxPtrLo d) s = .next { s with txPtr := (s.txPtr &&& 0xFF00#16) ||| d.setWidth 16 } ∧
    exec (.wrTxPtrHi d) s = .next { s with txPtr := (s.txPtr &&& 0x00FF#16) ||| (d.setWidth 16 <<< 8) }

/-- 43_host_interface R230: every write of the TX group while busy sets IGN and changes nothing else. -/
def Obligations.RequestWritesWhileBusyIgnored : Prop :=
  ∀ (s : State) (d : Byte), s.st ≠ .idle →
    exec (.wrSeq d) s = .next { s with ign := true } ∧ exec (.wrSvc d) s = .next { s with ign := true } ∧
    exec (.wrTxPlenLo d) s = .next { s with ign := true } ∧ exec (.wrTxPlenHi d) s = .next { s with ign := true } ∧
    exec (.wrTxPtrLo d) s = .next { s with ign := true } ∧ exec (.wrTxPtrHi d) s = .next { s with ign := true } ∧
    exec (.wrTxData d) s = .next { s with ign := true }

/-- 43_host_interface R229: TX_DATA while not busy stores at TX_PTR and advances it, or sets TXOVF; while busy it is
ignored and sets IGN. -/
def Obligations.TxDataStoresAtPointer : Prop :=
  ∀ (s : State) (d : Byte),
    (s.st ≠ .idle → exec (.wrTxData d) s = .next { s with ign := true }) ∧
    (s.st = .idle → s.txPtr.toNat < 8182 →
      ∃ m, exec (.wrTxData d) s = .next { s with txBuf := m, txPtr := s.txPtr + 1#16 } ∧
        m.read s.txPtr.toNat = some d ∧ ∀ a, a ≠ s.txPtr.toNat → m.read a = s.txBuf.read a) ∧
    (s.st = .idle → 8182 ≤ s.txPtr.toNat → exec (.wrTxData d) s = .next { s with txOvf := true })

/-- 43_host_interface R233: RX_DATA returns the byte at RX_PTR and advances it, or returns 0x00 and sets RXUNF. A byte
no engine step has written is a free value (log 7). -/
def Obligations.RxDataReadsAtPointer : Prop :=
  ∀ s : State,
    (s.rxPtr.toNat < s.rxLen.toNat →
      ∃ v, exec .rdRxData s = .next { s with rdata := v, rxPtr := s.rxPtr + 1#16 } ∧
        ∀ w, s.rxBuf.read s.rxPtr.toNat = some w → v = w) ∧
    (s.rxLen.toNat ≤ s.rxPtr.toNat → exec .rdRxData s = .next { s with rdata := 0x00#8, rxUnf := true })

/-- 40_checksums R117, R118, R120, R121: the data writes and result reads of the checksum units. -/
def Obligations.ChecksumUnitAccesses : Prop :=
  ∀ (s : State) (d : Byte),
    exec (.wrCrcData d) s = .next { s with crcAcc := crcStep s.crcAcc d } ∧
    exec .rdCrcResLo s = .next { s with rdata := BitVec.ofNat 8 (s.crcAcc ^^^ 0xFFFF#16).toNat } ∧
    exec .rdCrcResHi s = .next { s with rdata := BitVec.ofNat 8 ((s.crcAcc ^^^ 0xFFFF#16).toNat / 256) } ∧
    exec (.wrTckData d) s = .next { s with tckSum := BitVec.ofNat 8 (s.tckSum.toNat + d.toNat) } ∧
    exec .rdTckRes s = .next { s with rdata := BitVec.ofNat 8 ((s.tckSum.toNat + 255) % 256 ^^^ 255) }

/-- 40_checksums R118, R119, R121: fed the bytes `bs` since their INIT, the units hold `crc16(bs)` and `tck(bs)`, and
CRC_OK read from FLAGS2 is `verifyCrc(bs, trailer)` for the trailer written to CRC_CHK; in every state, busy or not. -/
def Obligations.ChecksumUnitsComputeChecksums : Prop :=
  ∀ (s : State) (bs : List Byte) (t0 t1 : Byte),
    (∃ t, execAll (.cmdCrcInit :: bs.map .wrCrcData) s = .next t ∧ t.crcRes = crc16 bs ∧
      t = { s with crcAcc := t.crcAcc }) ∧
    (∃ t, execAll (.cmdTckInit :: bs.map .wrTckData) s = .next t ∧ t.tckRes = tck bs ∧
      t = { s with tckSum := t.tckSum }) ∧
    (∃ t, execAll (.cmdCrcInit :: bs.map .wrCrcData ++ [.wrCrcChkLo t0, .wrCrcChkHi t1, .rdFlags2]) s = .next t ∧
      t.rdata.getLsbD 0 = verifyCrc bs t0 t1)

/-- 30_encoding R92, 43_host_interface R226, R230: a service code is written to SVC while not busy, and it is then data
byte 0 (offset 6) of the next frame; while busy it is ignored. That a PAYLOAD_SVC row is the write of its code is DEDUCED
(log 13). -/
def Obligations.ServiceCodesWriteSvc : Prop :=
  ∀ (s : State) (p : Instr × Byte),
    p ∈ [(.svcIdent, 0x20#8), (.svcTerminate, 0x21#8), (.svcFullRead, 0x30#8), (.svcFullWrite, 0x40#8),
      (.svcPartialWrite, 0x4F#8), (.svcLogon, 0x50#8), (.svcSecurity, 0x51#8), (.svcLogoff, 0x52#8),
      (.svcNegotiate, 0x61#8)] →
    (s.st = .idle → exec p.1 s = .next { s with svc := p.2 } ∧ State.txFrameByte { s with svc := p.2 } 6 = .ok p.2) ∧
    (s.st ≠ .idle → exec p.1 s = .next { s with ign := true })

/-! ### The engine -/

/-- 42_link_sequencer R164, R165: a byte of TxFrame is sent, the last one ends SEND. -/
def Obligations.TxFrameSendsNextByte : Prop :=
  ∀ (s : State) (b : Byte) (q : List TxAnswer), s.st = .send → s.txFrameByte s.txIdx.toNat = .ok b →
    s.env.txQ = .ok :: q →
    (s.txIdx.toNat + 1 < s.txPlen.toNat + 9 →
      exec .txFrame s = .next { s with
        txIdx := s.txIdx + 1#14, env := { s.env with txQ := q, line := s.env.line ++ [b] } }) ∧
    (s.txPlen.toNat + 9 ≤ s.txIdx.toNat + 1 →
      exec .txFrame s = .next { s with
        txIdx := s.txIdx + 1#14, discCnt := 0, nakRounds := 0x00#8, st := .awaitAck,
        env := { s.env with txQ := q, line := s.env.line ++ [b] } })

/-- 70_reset R282, 41_framer R132: the encoder's read of a payload byte no TX_DATA write has stored stops the model. That it
stops at the step that sends the byte, whatever the transport answers, is the model's reading (DEDUCED, log 6). -/
def Obligations.UnwrittenPayloadByteFaults : Prop :=
  ∀ s : State, s.st = .send → 7 ≤ s.txIdx.toNat → s.txIdx.toNat < 7 + s.txPlen.toNat → s.txPlen.toNat ≤ 8182 →
    s.txBuf.read (s.txIdx.toNat - 7) = none → exec .txFrame s = .fault (.txByteUnwritten (s.txIdx.toNat - 7))

/-- 42_link_sequencer R182, 60_exceptions R251, R265: TxIoErr on a request byte, a NAK or an ACK ends the exchange with
IO_ERROR; the byte does not reach the line. -/
def Obligations.TransmitErrorEndsExchange : Prop :=
  ∀ (s : State) (b : Byte) (q : List TxAnswer), s.env.txQ = .ioErr :: q →
    (s.st = .send → s.txFrameByte s.txIdx.toNat = .ok b →
      exec .txFrame s = .next { s with errCode := 0x11#8, err := true, st := .idle, env := { s.env with txQ := q } }) ∧
    (s.st = .sendNak →
      exec .txNak s = .next { s with errCode := 0x31#8, err := true, st := .idle, env := { s.env with txQ := q } }) ∧
    (s.st = .sendAck →
      exec .txAck s = .next { s with errCode := 0x81#8, err := true, st := .idle, env := { s.env with txQ := q } })

/-- 42_link_sequencer R171, R162: SEND_NAK. -/
def Obligations.TxNakPromptsRetransmission : Prop :=
  ∀ (s : State) (q : List TxAnswer), s.st = .sendNak → s.env.txQ = .ok :: q →
    exec .txNak s = .next { s with
      nakCnt := if s.nakCnt = 255#8 then 255#8 else s.nakCnt + 1#8,
      nakRounds := if s.nakRounds = 255#8 then 255#8 else s.nakRounds + 1#8,
      discCnt := 0, st := .awaitAck, env := { s.env with txQ := q, line := s.env.line ++ [0x15#8] } }

/-- 42_link_sequencer R178, R162, and R179, R180: an intermediate ACK goes to the next header; the final ACK completes
the exchange, captures STATUS from RX_BUF[0] and toggles CTRL_BIT. -/
def Obligations.TxAckContinuesOrCompletes : Prop :=
  ∀ (s : State) (q : List TxAnswer), s.st = .sendAck → s.env.txQ = .ok :: q →
    (s.ackFinal = false →
      exec .txAck s = .next { s with
        hdrIdx := 0, bodyIdx := 0#16, crcIdx := 0, rxAcc := 0xFFFF#16, st := .readHeader,
        env := { s.env with txQ := q, line := s.env.line ++ [0x06#8] } }) ∧
    (s.ackFinal = true → s.rxLen = 0#16 →
      exec .txAck s = .next { s with
        status := 0x00#8, statusValid := false, rejected := false, ctrlBit := !s.ctrlBit, done := true, st := .idle,
        env := { s.env with txQ := q, line := s.env.line ++ [0x06#8] } }) ∧
    (∀ v, s.ackFinal = true → s.rxLen ≠ 0#16 → s.rxBuf.read 0 = some v →
      exec .txAck s = .next { s with
        status := v, statusValid := true, rejected := decide (v ≠ 0x00#8), ctrlBit := !s.ctrlBit, done := true,
        st := .idle, env := { s.env with txQ := q, line := s.env.line ++ [0x06#8] } })

/-- 42_link_sequencer R166 (with R162) and R167: ACK starts the header, NAK ends the exchange with NO_ACK. -/
def Obligations.AckStartsHeaderNakEnds : Prop :=
  ∀ s : State, s.st = .awaitAck →
    exec .rxAck s = .next { s with
      hdrIdx := 0, bodyIdx := 0#16, crcIdx := 0, rxAcc := 0xFFFF#16, st := .readHeader } ∧
    exec .rxNak s = .next { s with errCode := 0x25#8, err := true, st := .idle }

/-- 42_link_sequencer R168, R169: a discarded byte, with the budget not exhausted, exhausted with a NAK round left, and
exhausted with none left. That disc_cnt keeps its last count after NO_ACK is the model's reading (DEDUCED, log 17). -/
def Obligations.DiscardCountsTowardNak : Prop :=
  ∀ (s : State) (b : Byte), s.st = .awaitAck →
    (s.discCnt + 1 < s.par.nDiscard → exec (.rxDiscard b) s = .next { s with discCnt := s.discCnt + 1 }) ∧
    (s.par.nDiscard ≤ s.discCnt + 1 →
      (s.par.nakRoundsMax = none →
        exec (.rxDiscard b) s = .next { s with discCnt := s.discCnt + 1, st := .sendNak }) ∧
      (∀ k, s.par.nakRoundsMax = some k → s.nakRounds.toNat < k.val →
        exec (.rxDiscard b) s = .next { s with discCnt := s.discCnt + 1, st := .sendNak }) ∧
      (∀ k, s.par.nakRoundsMax = some k → k.val ≤ s.nakRounds.toNat →
        exec (.rxDiscard b) s = .next { s with
          discCnt := s.discCnt + 1, errCode := 0x25#8, err := true, st := .idle }))

/-- 42_link_sequencer R172: each of the first five header bytes is stored and enters the CRC. -/
def Obligations.HeaderByteStored : Prop :=
  ∀ (s : State) (b : Byte) (i : Fin 5), s.st = .readHeader → s.hdrIdx = i.val →
    ∃ h, exec (.rxFrame b) s = .next { s with hdr := h, rxAcc := crcStep s.rxAcc b, hdrIdx := i.val + 1 } ∧
      h.bytes = s.hdr.bytes.set i.val b

/-- 42_link_sequencer R173, 41_framer R136 to R138, R141: the sixth header byte, and the checks in their order. What
hdr_idx, more and frag_len hold after a failed check is the model's reading (DEDUCED, log 17). -/
def Obligations.SixthHeaderByteChecked : Prop :=
  ∀ (s : State) (b : Byte) (len : Nat), s.st = .readHeader → s.hdrIdx = 5 → len = s.hdr.h4.toNat * 256 + b.toNat →
    exec (.rxFrame b) s = .next (
      if s.hdr.h0 ≠ 0xEE#8 ∨ (s.par.rxLenStrict = true ∧ 8183 < len) then
        { s with
          hdr := { s.hdr with h5 := b }, rxAcc := crcStep s.rxAcc b, hdrIdx := 6,
          more := s.hdr.h2.getLsbD 0, errCode := 0x43#8, err := true, st := .idle }
      else if s.par.reasmCap.toNat < s.rxLen.toNat + len then
        { s with
          hdr := { s.hdr with h5 := b }, rxAcc := crcStep s.rxAcc b, hdrIdx := 6,
          more := s.hdr.h2.getLsbD 0, errCode := 0x47#8, err := true, st := .idle }
      else
        { s with
          hdr := { s.hdr with h5 := b }, rxAcc := crcStep s.rxAcc b, hdrIdx := 6,
          more := s.hdr.h2.getLsbD 0, fragLen := BitVec.ofNat 16 len,
          st := if len = 0 then .readCrc else .readBody })

/-- 42_link_sequencer R174: a data byte is stored at `RX_LEN + body_idx`, and no other byte of RX_BUF changes. -/
def Obligations.BodyByteStored : Prop :=
  ∀ (s : State) (b : Byte), s.st = .readBody → s.rxLen.toNat + s.bodyIdx.toNat < s.par.reasmCap.toNat →
    ∃ m, exec (.rxFrame b) s = .next { s with
        rxBuf := m, rxAcc := crcStep s.rxAcc b, bodyIdx := s.bodyIdx + 1#16,
        st := if s.bodyIdx.toNat + 1 < s.fragLen.toNat then .readBody else .readCrc } ∧
      m.read (s.rxLen.toNat + s.bodyIdx.toNat) = some b ∧
      ∀ a, a ≠ s.rxLen.toNat + s.bodyIdx.toNat → m.read a = s.rxBuf.read a

/-- 42_link_sequencer R175: the trailer, low byte first. -/
def Obligations.TrailerBytesLowFirst : Prop :=
  ∀ (s : State) (b : Byte), s.st = .readCrc →
    (s.crcIdx = 0 → exec (.rxFrame b) s = .next { s with
      rxCrc := (s.rxCrc &&& 0xFF00#16) ||| b.setWidth 16, crcIdx := 1 }) ∧
    (s.crcIdx = 1 → exec (.rxFrame b) s = .next { s with
      rxCrc := (s.rxCrc &&& 0x00FF#16) ||| (b.setWidth 16 <<< 8), crcIdx := 2, st := .validate })

/-- 42_link_sequencer R176, R177: VALIDATE commits the fragment, or ends the exchange with CRC_MISMATCH after CALCCRC. -/
def Obligations.ValidateCommitsOrMismatch : Prop :=
  ∀ (s : State) (ts : List Turn), s.st = .validate → s.env.turns = .engine :: ts →
    (s.rxAcc ^^^ 0xFFFF#16 = s.rxCrc →
      step s = .next { s with
        calcCrc := s.rxAcc ^^^ 0xFFFF#16, rxLen := s.rxLen + s.fragLen,
        fragCnt := if s.fragCnt = 255#8 then 255#8 else s.fragCnt + 1#8,
        moreLast := s.more, ackFinal := !s.more, st := .sendAck, env := { s.env with turns := ts } }) ∧
    (s.rxAcc ^^^ 0xFFFF#16 ≠ s.rxCrc →
      step s = .next { s with
        calcCrc := s.rxAcc ^^^ 0xFFFF#16, errCode := 0x74#8, err := true, st := .idle,
        env := { s.env with turns := ts } })

/-- 42_link_sequencer R170, R181, 60_exceptions R251: Timeout and RxIoErr in each receive state. -/
def Obligations.ReceiveFailuresEndExchange : Prop :=
  ∀ (s : State) (ts : List Turn) (q : List RxAnswer) (p : SeqState × Byte × Byte),
    p ∈ [(.awaitAck, 0x22#8, 0x21#8), (.readHeader, 0x42#8, 0x41#8), (.readBody, 0x52#8, 0x51#8),
      (.readCrc, 0x62#8, 0x61#8)] →
    s.st = p.1 → s.env.turns = .engine :: ts →
    (s.env.rxQ = .timeout :: q →
      step s = .next { s with
        errCode := p.2.1, err := true, st := .idle, env := { s.env with turns := ts, rxQ := q } }) ∧
    (s.env.rxQ = .ioErr :: q →
      step s = .next { s with
        errCode := p.2.2, err := true, st := .idle, env := { s.env with turns := ts, rxQ := q } })

/-- 42_link_sequencer R186, R160, 20_memory R74: in IDLE the engine has no step. That it waits while the transport has not
answered a receive, or the transmit of a byte that can be read, and that an empty schedule moves no agent, is the model's
choice (DESIGN CHOICE, log 3, 1). -/
def Obligations.IdleEngineDoesNothing : Prop :=
  ∀ (s : State) (ts : List Turn),
    (s.env.turns = .engine :: ts → s.st = .idle → step s = .next { s with env := { s.env with turns := ts } }) ∧
    (s.env.turns = .engine :: ts → s.rxReq = true → s.env.rxQ = [] →
      step s = .next { s with env := { s.env with turns := ts } }) ∧
    (∀ b, s.env.turns = .engine :: ts → s.st = .send → s.txFrameByte s.txIdx.toNat = .ok b → s.env.txQ = [] →
      step s = .next { s with env := { s.env with turns := ts } }) ∧
    (s.env.turns = .engine :: ts → s.st = .sendNak ∨ s.st = .sendAck → s.env.txQ = [] →
      step s = .next { s with env := { s.env with turns := ts } }) ∧
    (s.env.turns = [] → step s = .next s)

/-- 70_reset R280, R281, R282, R283: what a reset step leaves, in every state: each register at its reset value, every
byte of TX_BUF unwritten, the transport untouched. That RX_BUF, which the rules leave unspecified, has no byte listed (its
bytes are free values), and that the parameters, the queues and the read data port are as they are, is the model's choice
(DESIGN CHOICE, log 7, 5, 1 to 4, 9). -/
def Obligations.ResetStepRestoresRegisters : Prop :=
  ∀ (s : State) (ts : List Turn), s.env.turns = .reset :: ts →
    step s = .next {
      ctrlBit := false, done := false, err := false, statusValid := false, rejected := false, moreLast := false,
      errCode := 0x00#8, status := 0x00#8, irqEn := false, seq := 0x00#8, svc := 0x00#8, txPlen := 0#16,
      txPtr := 0#16, txBuf := [], rxBuf := [], rxLen := 0#16, rxPtr := 0#16, fragCnt := 0x00#8, nakCnt := 0x00#8,
      hdr := ⟨0#8, 0#8, 0#8, 0#8, 0#8, 0#8⟩, rxCrc := 0#16, calcCrc := 0#16, ign := false, txOvf := false,
      rxUnf := false, crcAcc := 0xFFFF#16, crcChk := 0#16, tckSum := 0x00#8, txIdx := 0#14, discCnt := 0,
      nakRounds := 0x00#8, hdrIdx := 0, fragLen := 0#16, bodyIdx := 0#16, crcIdx := 0, rxAcc := 0#16, more := false,
      ackFinal := false, st := .idle, rdata := 0x00#8, par := s.par, env := { s.env with turns := ts } }

/-! ### The whole machine -/

/-- 10_state R44, 70_reset R281: the state after reset meets the invariant. -/
def Obligations.ResetMeetsInvariant : Prop :=
  State.reset.Inv ∧ State.reset.CrcInv

/-- 10_state R44, 60_exceptions R252, 70_reset R282, 43_host_interface R241: every step of every agent keeps the
invariant, from every state that meets it. -/
def Obligations.EveryStepKeepsInvariant : Prop :=
  ∀ s t : State, s.Inv → step s = .next t → t.Inv

/-- 42_link_sequencer R176: in every state `rx_acc` is the CRC of exactly the header and data bytes received, and every
step keeps it so. -/
def Obligations.EveryStepKeepsReceiveCrc : Prop :=
  ∀ s t : State, s.Inv → s.CrcInv → step s = .next t → t.CrcInv

/-- 41_framer R140: a fragment passes VALIDATE if and only if `verifyCrc` holds of its header and data bytes and its
trailer. -/
def Obligations.FragmentPassesIffCrcVerifies : Prop :=
  ∀ (s t : State) (ts : List Turn), s.CrcInv → s.st = .validate → s.env.turns = .engine :: ts → step s = .next t →
    (verifyCrc (s.hdr.bytes ++ s.fragData s.fragLen.toNat) (lo s.rxCrc) (hi s.rxCrc) = true → t.st = .sendAck) ∧
    (verifyCrc (s.hdr.bytes ++ s.fragData s.fragLen.toNat) (lo s.rxCrc) (hi s.rxCrc) = false →
      t.st = .idle ∧ t.errCode = 0x74#8)

/-- 20_memory R60, 70_reset R282, 43_host_interface R210: from a state that meets the invariant no step is refused, and
the only fault is the encoder's read of a payload byte that has not been written. -/
def Obligations.OnlyUnwrittenPayloadFaults : Prop :=
  ∀ s : State, s.Inv →
    (∀ r, step s ≠ .refused r) ∧
    (∀ f, step s = .fault f →
      s.st = .send ∧ ∃ i, i < s.txPlen.toNat ∧ s.txBuf.read i = none ∧ f = .txByteUnwritten i) ∧
    (s.payloadWritten → s.safe)

/-- 10_state R21, R45, 42_link_sequencer R184: CTRL_BIT changes only in the step of the final ACK that completes the
exchange, by an accepted SESSION_INIT, or at reset. -/
def Obligations.ControlBitChangesOnlyOnCompletion : Prop :=
  ∀ s t : State, step s = .next t → t.ctrlBit ≠ s.ctrlBit →
    (∃ ts q, s.env.turns = .engine :: ts ∧ s.st = .sendAck ∧ s.ackFinal = true ∧ s.env.txQ = .ok :: q ∧
      t.done = true ∧ t.st = .idle ∧ t.err = s.err) ∨
    (∃ ts q, s.env.turns = .host :: ts ∧ s.env.hostQ = .wr 0x00#8 0x02#8 :: q ∧ s.st = .idle ∧ t.ctrlBit = false) ∨
    (∃ ts, s.env.turns = .reset :: ts ∧ t.ctrlBit = false)

/-- 20_memory R73, 41_framer R132, 43_host_interface R230: while an exchange goes on, no step of any agent changes what
TxFrame is built from. -/
def Obligations.TransmitFrameFixedWhileBusy : Prop :=
  ∀ s t : State, s.busy = true → step s = .next t → t.busy = true →
    t.txSource = s.txSource ∧ ∀ i, t.txFrameByte i = s.txFrameByte i

/-- 40_checksums R122: no engine step changes the host's checksum units, and what the engine does is the same whatever
they hold. -/
def Obligations.EngineIndependentOfChecksumUnits : Prop :=
  ∀ (s t : State) (ts : List Turn) (c k : Half) (u : Byte), s.env.turns = .engine :: ts → step s = .next t →
    (t.crcAcc = s.crcAcc ∧ t.crcChk = s.crcChk ∧ t.tckSum = s.tckSum) ∧
    step { s with crcAcc := c, crcChk := k, tckSum := u } = .next { t with crcAcc := c, crcChk := k, tckSum := u }

/-- 60_exceptions R251, R256, R265: a step that sets ERR ends in IDLE with a code, and leaves alone all that R251 lists,
for an error of a running exchange. -/
def Obligations.ErrorEntryKeepsTheRest : Prop :=
  ∀ s t : State, step s = .next t → s.err = false → t.err = true → s.busy = true →
    t.st = .idle ∧ t.errCode.toNat / 16 = s.st.code.toNat ∧ 1 ≤ t.errCode.toNat % 16 ∧ t.errCode.toNat % 16 ≤ 7 ∧
      t.done = s.done ∧ t.ctrlBit = s.ctrlBit ∧ t.rxLen = s.rxLen ∧ t.rxBuf = s.rxBuf ∧ t.fragCnt = s.fragCnt ∧
      t.nakCnt = s.nakCnt ∧ t.rxCrc = s.rxCrc ∧ t.status = s.status ∧ t.statusValid = s.statusValid ∧
      t.rejected = s.rejected ∧ t.moreLast = s.moreLast ∧ t.txSource = s.txSource ∧ t.txPtr = s.txPtr ∧
      t.crcAcc = s.crcAcc ∧ t.crcChk = s.crcChk ∧ t.tckSum = s.tckSum ∧ t.env.line = s.env.line

/-- 42_link_sequencer R163 to R165, R183, 70_reset R294: from acceptance, TX_PLEN + 9 engine steps answered TxOk put
exactly the bytes of `Encode(SVC, payload, CTRL_BIT, SEQ)` on the line, once each and in order, and end in AWAIT_ACK. -/
def Obligations.RequestSentExactly : Prop :=
  ∀ (s : State) (p : List Byte) (ts : List Turn) (q : List TxAnswer),
    s.st = .send → s.txIdx = 0#14 → p.length = s.txPlen.toNat → p.length ≤ 8182 →
    (∀ j b, p[j]? = some b → s.txBuf.read j = some b) →
    s.env.turns = List.replicate (p.length + 9) .engine ++ ts →
    s.env.txQ = List.replicate (p.length + 9) .ok ++ q →
    ∃ f, encodeFrame s.svc p s.ctrlBit s.seq = some f ∧
      reaches (p.length + 9) s { s with
        txIdx := BitVec.ofNat 14 (p.length + 9), discCnt := 0, nakRounds := 0x00#8, st := .awaitAck,
        env := { s.env with turns := ts, txQ := q, line := s.env.line ++ f } }

/-- 42_link_sequencer R172 to R176, R187, R188, 41_framer R140: a fragment with header `h`, data `d` and a trailer that
verifies, delivered byte by byte, takes `6 + L + 2` receive steps and one VALIDATE step, and is committed: RX_LEN grows by
L, the data stand in RX_BUF from the old RX_LEN on, and the earlier bytes are kept. -/
def Obligations.FragmentReceivedAndCommitted : Prop :=
  ∀ (s : State) (h : Header) (d : List Byte) (t0 t1 : Byte) (ts : List Turn) (q : List RxAnswer),
    s.Inv → s.st = .readHeader → s.hdrIdx = 0 → s.rxAcc = 0xFFFF#16 →
    h.h0 = 0xEE#8 → h.length.toNat = d.length → (s.par.rxLenStrict = true → d.length ≤ 8183) →
    s.rxLen.toNat + d.length ≤ s.par.reasmCap.toNat → verifyCrc (h.bytes ++ d) t0 t1 = true →
    s.env.turns = List.replicate (d.length + 9) .engine ++ ts →
    s.env.rxQ = (h.bytes ++ d ++ [t0, t1]).map .byte ++ q →
    ∃ t, reaches (d.length + 9) s t ∧ t.st = .sendAck ∧ t.ackFinal = !h.moreFlag ∧ t.moreLast = h.moreFlag ∧
      t.rxLen.toNat = s.rxLen.toNat + d.length ∧
      (∀ j b, d[j]? = some b → t.rxBuf.read (s.rxLen.toNat + j) = some b) ∧
      (∀ j, j < s.rxLen.toNat → t.rxBuf.read j = s.rxBuf.read j) ∧
      t.fragCnt = satInc s.fragCnt ∧ t.hdr = h ∧ t.calcCrc = t.rxCrc ∧ t.rxCrc = pair t1 t0 ∧
      t.ctrlBit = s.ctrlBit ∧ t.err = s.err ∧ t.done = s.done ∧ t.par = s.par ∧
      t.env = { s.env with turns := ts, rxQ := q }

/-- 42_link_sequencer R184, R185, R187, 43_host_interface R215: a whole exchange, from an EXCHANGE written while idle, the
request of TX_PLEN payload bytes, an ACK and one last fragment with data `d`: after the steps of R294 the block is in
IDLE with DONE, the data in RX_BUF, STATUS their first byte, CTRL_BIT toggled once, and the line holds the request and
one ACK. -/
def Obligations.ExchangeCompletes : Prop :=
  ∀ (s : State) (p : List Byte) (h : Header) (d : List Byte) (t0 t1 : Byte),
    s.Inv → s.st = .idle → p.length = s.txPlen.toNat → p.length ≤ 8182 →
    (∀ j b, p[j]? = some b → s.txBuf.read j = some b) →
    h.h0 = 0xEE#8 → h.moreFlag = false → h.length.toNat = d.length → 1 ≤ d.length → d.length ≤ 8183 →
    verifyCrc (h.bytes ++ d) t0 t1 = true →
    s.env.turns = .host :: List.replicate (p.length + 9 + 1 + (d.length + 9) + 1) .engine →
    s.env.hostQ = [.wr 0x00#8 0x01#8] → s.env.txQ = List.replicate (p.length + 10) .ok →
    s.env.rxQ = .byte 0x06#8 :: (h.bytes ++ d ++ [t0, t1]).map .byte →
    ∃ f t, encodeFrame s.svc p s.ctrlBit s.seq = some f ∧
      reaches (1 + (p.length + 9 + 1 + (d.length + 9) + 1)) s t ∧
      t.st = .idle ∧ t.done = true ∧ t.err = false ∧ t.errCode = 0x00#8 ∧ t.ctrlBit = !s.ctrlBit ∧
      t.rxLen.toNat = d.length ∧ (∀ j b, d[j]? = some b → t.rxBuf.read j = some b) ∧
      t.statusValid = true ∧ some t.status = d[0]? ∧ t.rejected = decide (t.status ≠ 0x00#8) ∧
      t.fragCnt = 1#8 ∧ t.nakCnt = 0#8 ∧ t.env.line = s.env.line ++ f ++ [0x06#8]
end

