-- ==== Sys2Proof/Laws/Bytes.lean ====
section
/-! SUPPORT. The bytes of 16-bit values: what `lo`, `hi`, `pair`, `setLo` and `setHi` are to each other, as numbers and
bit by bit. -/

namespace Sys2Proof.Machine

theorem lo_toNat (v : Half) : (lo v).toNat = v.toNat % 256 := by
  simp [lo, BitVec.extractLsb'_toNat]

theorem hi_toNat (v : Half) : (hi v).toNat = v.toNat / 256 := by
  have := v.isLt
  simp [hi, BitVec.extractLsb'_toNat, Nat.shiftRight_eq_div_pow]
  omega

theorem pair_toNat (h l : Byte) : (pair h l).toNat = h.toNat * 256 + l.toNat := by
  have := l.isLt
  have e : (pair h l).toNat = h.toNat <<< 8 ||| l.toNat := BitVec.toNat_append h l
  rw [e, Nat.shiftLeft_eq, Nat.mul_comm, ← Nat.two_pow_add_eq_or_of_lt this]

theorem pair_getLsbD (h l : Byte) (i : Nat) :
    (pair h l).getLsbD i = if i < 8 then l.getLsbD i else h.getLsbD (i - 8) :=
  BitVec.getLsbD_append

@[simp] theorem lo_pair (h l : Byte) : lo (pair h l) = l := by
  have := l.isLt
  apply BitVec.eq_of_toNat_eq
  rw [lo_toNat, pair_toNat]
  omega

@[simp] theorem hi_pair (h l : Byte) : hi (pair h l) = h := by
  have := l.isLt
  apply BitVec.eq_of_toNat_eq
  rw [hi_toNat, pair_toNat]
  omega

@[simp] theorem pair_hi_lo (v : Half) : pair (hi v) (lo v) = v := by
  apply BitVec.eq_of_toNat_eq
  rw [pair_toNat, lo_toNat, hi_toNat]
  omega

theorem lo_eq_ofNat (v : Half) : lo v = BitVec.ofNat 8 v.toNat :=
  BitVec.eq_of_toNat_eq (by rw [lo_toNat, BitVec.toNat_ofNat])

theorem hi_eq_ofNat (v : Half) : hi v = BitVec.ofNat 8 (v.toNat / 256) :=
  BitVec.eq_of_toNat_eq (by have := v.isLt; rw [hi_toNat, BitVec.toNat_ofNat]; omega)

/-- A `_LO` write keeps bits 15..8 (20_memory R62). -/
theorem setLo_eq (v : Half) (d : Byte) : setLo v d = (v &&& 0xFF00#16) ||| d.setWidth 16 := by
  have mask : ∀ j, j < 16 → (0xFF00#16).getLsbD j = decide (8 ≤ j) := by decide
  apply BitVec.eq_of_getLsbD_eq
  intro i hi
  rw [setLo, pair_getLsbD, BitVec.getLsbD_or, BitVec.getLsbD_and, BitVec.getLsbD_setWidth, mask i hi]
  by_cases h : i < 8
  · have h' : ¬ 8 ≤ i := by omega
    simp [h, h', hi]
  · have h' : 8 ≤ i := by omega
    have e : 8 + (i - 8) = i := by omega
    have h8 : i - 8 < 8 := by omega
    simp [Machine.hi, h, h', hi, e, h8]

/-- A `_HI` write keeps bits 7..0 (20_memory R62). -/
theorem setHi_eq (v : Half) (d : Byte) : setHi v d = (v &&& 0x00FF#16) ||| (d.setWidth 16 <<< 8) := by
  have mask : ∀ j, j < 16 → (0x00FF#16).getLsbD j = decide (j < 8) := by decide
  apply BitVec.eq_of_getLsbD_eq
  intro i hi
  rw [setHi, pair_getLsbD, BitVec.getLsbD_or, BitVec.getLsbD_and, BitVec.getLsbD_shiftLeft, BitVec.getLsbD_setWidth,
    mask i hi]
  by_cases h : i < 8
  · simp [lo, h, hi]
  · have h8 : i - 8 < 16 := by omega
    simp [h, hi, h8]

theorem satInc_toNat (x : Byte) : (satInc x).toNat = min 255 (x.toNat + 1) := by
  have := x.isLt
  unfold satInc
  split
  · next h => simp [h]
  · next h =>
    have hx : x.toNat ≠ 255 := fun e => h (BitVec.eq_of_toNat_eq (by simpa using e))
    rw [BitVec.toNat_add]
    simp
    omega

/-- ERR_STATE is the quotient by 16 and CODE the remainder (10_state R23). -/
theorem errorByte_toNat (st : SeqState) (c : ErrorCode) :
    (errorByte st c).toNat = st.code.toNat * 16 + c.code.toNat := by
  cases st <;> cases c <;> decide

end Sys2Proof.Machine
end

