-- ==== Sys2Proof/Laws/State.lean ====
section
/-! SUPPORT. The state record: what each update leaves of the computed flags. The lemmas of the stored fields, one for each
field of each update, are those `@[simps]` states at the updates in Machine/Ops.lean and Machine/Sequencer.lean
(`State.raiseError_err`, `State.tookRx_env_rxQ`, …): true by rfl and in the simp set, so that no proof unfolds an update. -/

namespace Sys2Proof.Machine

theorem State.busy_eq_false (s : State) : s.busy = false ↔ s.st = .idle := by simp [State.busy]

theorem State.busy_eq_true (s : State) : s.busy = true ↔ s.st ≠ .idle := by simp [State.busy]

/-- A transmit and a receive are never outstanding together (20_memory R74, 10_state R44). -/
theorem State.txValid_and_rxReq (s : State) : (s.txValid && s.rxReq) = false := by
  cases h : s.st <;> simp [State.txValid, State.rxReq, h]

/-- A byte is offered exactly while `tx_valid` is high (10_state R43). -/
theorem State.txData_isSome (s : State) : s.txData.isSome = s.txValid := by
  cases h : s.st <;> simp [State.txData, State.txValid, h]

@[simp] theorem State.raiseError_busy (s : State) (c : ErrorCode) : (s.raiseError c).busy = false := rfl
@[simp] theorem State.complete_busy (s : State) : s.complete.busy = false := rfl
@[simp] theorem State.beginFragment_busy (s : State) : s.beginFragment.busy = true := rfl
@[simp] theorem State.sentNak_busy (s : State) : s.sentNak.busy = true := rfl
@[simp] theorem State.resetBlock_busy (s : State) : s.resetBlock.busy = false := rfl
@[simp] theorem State.clearFlags_busy (s : State) : s.clearFlags.busy = s.busy := rfl
@[simp] theorem State.clearOutcome_busy (s : State) : s.clearOutcome.busy = s.busy := rfl
@[simp] theorem State.ignored_busy (s : State) : s.ignored.busy = s.busy := rfl
@[simp] theorem State.returns_busy (s : State) (v : Byte) : (s.returns v).busy = s.busy := rfl
@[simp] theorem State.tookTurn_busy (s : State) (ts : List Turn) : (s.tookTurn ts).busy = s.busy := rfl
@[simp] theorem State.tookAccess_busy (s : State) (q : List HostAccess) : (s.tookAccess q).busy = s.busy := rfl
@[simp] theorem State.tookRx_busy (s : State) (q : List RxAnswer) : (s.tookRx q).busy = s.busy := rfl

@[simp] theorem State.clearFlags_irq (s : State) : s.clearFlags.irq = false := by simp [State.irq, State.clearFlags]
@[simp] theorem State.resetBlock_irq (s : State) : s.resetBlock.irq = false := rfl
@[simp] theorem State.raiseError_irq (s : State) (c : ErrorCode) : (s.raiseError c).irq = s.irqEn := by
  simp [State.irq, State.raiseError]
@[simp] theorem State.complete_irq (s : State) : s.complete.irq = s.irqEn := by simp [State.irq, State.complete]
@[simp] theorem State.ignored_irq (s : State) : s.ignored.irq = s.irq := rfl
@[simp] theorem State.returns_irq (s : State) (v : Byte) : (s.returns v).irq = s.irq := rfl

@[simp] theorem State.raiseError_txSource (s : State) (c : ErrorCode) :
    (s.raiseError c).svc = s.svc ∧ (s.raiseError c).seq = s.seq ∧ (s.raiseError c).txPlen = s.txPlen ∧
      (s.raiseError c).txBuf = s.txBuf ∧ (s.raiseError c).ctrlBit = s.ctrlBit := ⟨rfl, rfl, rfl, rfl, rfl⟩

end Sys2Proof.Machine
end

