-- ==== Sys2Proof/Laws/Ops.lean ====
section
/-! SUPPORT. One lemma for each shared operation that says once everything it can do. A proof about an instruction cites
it instead of unfolding the operation. -/

namespace Sys2Proof.Machine

/-- `TxByte` (20_memory R74): no answer yet, TxIoErr, or TxOk. -/
theorem State.transmit_cases (s : State) (b : Byte) (k : State → State) :
    (s.env.txQ = [] ∧ s.transmit b k = s) ∨
    (∃ q, s.env.txQ = .ioErr :: q ∧ s.transmit b k = (s.txFailed q).raiseError .ioError) ∨
    (∃ q, s.env.txQ = .ok :: q ∧ s.transmit b k = k (s.txSent b q)) := by
  unfold State.transmit
  split
  · exact .inl ⟨‹_›, rfl⟩
  · exact .inr (.inl ⟨_, ‹_›, rfl⟩)
  · exact .inr (.inr ⟨_, ‹_›, rfl⟩)

/-- A read of TX_BUF answers a byte exactly when the index is in range and the byte written. -/
theorem State.txRead_ok_iff (s : State) (i : Nat) (b : Byte) :
    s.txRead i = .ok b ↔ i < Config.txCap ∧ s.txBuf.read i = some b := by
  unfold State.txRead
  split
  · split <;> simp_all
  · simp_all

/-- The two faults of a read of TX_BUF. -/
theorem State.txRead_error_iff (s : State) (i : Nat) (f : Fault) :
    s.txRead i = .error f ↔
      (i < Config.txCap ∧ s.txBuf.read i = none ∧ f = .txByteUnwritten i) ∨ (Config.txCap ≤ i ∧ f = .txBufRange i) := by
  unfold State.txRead
  split
  · next h =>
    have h' : ¬ Config.txCap ≤ i := by omega
    cases s.txBuf.read i <;> simp [h, h', eq_comm]
  · next h =>
    have h' : Config.txCap ≤ i := by omega
    simp_all [eq_comm]

/-- SEND after TxOk (R164, R165). -/
theorem State.sentFrameByte_cases (s : State) :
    (s.txIdx.toNat + 1 < s.frameLen ∧ s.sentFrameByte = { s with txIdx := s.txIdx + 1#14 }) ∨
    (s.frameLen ≤ s.txIdx.toNat + 1 ∧
      s.sentFrameByte = { s with txIdx := s.txIdx + 1#14, discCnt := 0, nakRounds := 0x00#8, st := .awaitAck }) := by
  unfold State.sentFrameByte
  split
  · exact .inl ⟨‹_›, rfl⟩
  · exact .inr ⟨by omega, rfl⟩

/-- AWAIT_ACK and a discarded byte (R168, R169). -/
theorem State.discardByte_cases (s : State) :
    (s.discCnt + 1 < s.par.nDiscard ∧ s.discardByte = { s with discCnt := s.discCnt + 1 }) ∨
    (s.par.nDiscard ≤ s.discCnt + 1 ∧ s.nakRoundLeft = true ∧
      s.discardByte = { s with discCnt := s.discCnt + 1, st := .sendNak }) ∨
    (s.par.nDiscard ≤ s.discCnt + 1 ∧ s.nakRoundLeft = false ∧
      s.discardByte = State.raiseError { s with discCnt := s.discCnt + 1 } .noAck) := by
  unfold State.discardByte
  split
  · exact .inl ⟨‹_›, rfl⟩
  · split
    · exact .inr (.inl ⟨by omega, ‹_›, rfl⟩)
    · exact .inr (.inr ⟨by omega, by simp_all, rfl⟩)

/-- A NAK round is left (R169) when NAK_ROUNDS_MAX is UNBOUNDED or not reached. -/
theorem State.nakRoundLeft_iff (s : State) :
    s.nakRoundLeft = true ↔ ∀ k, s.par.nakRoundsMax = some k → s.nakRounds.toNat < k.val := by
  unfold State.nakRoundLeft
  split <;> simp_all

/-- The checks of a complete header in their order (R141): which error, or that none applies. -/
theorem State.headerError_cases (s : State) :
    (s.headerError = some .badFraming ∧
      (s.hdr.h0 ≠ Config.stp ∨ (s.par.rxLenStrict = true ∧ Config.maxData < s.hdr.length.toNat))) ∨
    (s.headerError = some .overflow ∧ s.hdr.h0 = Config.stp ∧
      ¬(s.par.rxLenStrict = true ∧ Config.maxData < s.hdr.length.toNat) ∧
      s.par.reasmCap.toNat < s.rxLen.toNat + s.hdr.length.toNat) ∨
    (s.headerError = none ∧ s.hdr.h0 = Config.stp ∧
      ¬(s.par.rxLenStrict = true ∧ Config.maxData < s.hdr.length.toNat) ∧
      s.rxLen.toNat + s.hdr.length.toNat ≤ s.par.reasmCap.toNat) := by
  unfold State.headerError
  split
  · exact .inl ⟨rfl, .inl ‹_›⟩
  · split
    · exact .inl ⟨rfl, .inr ‹_›⟩
    · split
      · exact .inr (.inl ⟨rfl, by simp_all, ‹_›, ‹_›⟩)
      · exact .inr (.inr ⟨rfl, by simp_all, ‹_›, by omega⟩)

/-- The sixth header byte (R173): an error of the header, or the fragment's body or trailer comes next. -/
theorem State.headerDone_cases (s : State) :
    (∃ c, s.headerError = some c ∧ s.headerDone = State.raiseError { s with more := s.hdr.moreFlag } c) ∨
    (s.headerError = none ∧
      s.headerDone = { s with
        more := s.hdr.moreFlag, fragLen := s.hdr.length
        st := if s.hdr.length = 0#16 then .readCrc else .readBody }) := by
  unfold State.headerDone
  split
  · exact .inl ⟨_, ‹_›, rfl⟩
  · exact .inr ⟨‹_›, rfl⟩

/-- READ_BODY (R174): the byte is stored inside RX_BUF, or the model faults at its end. -/
theorem State.bodyByte_cases (s : State) (b : Byte) :
    (s.bodyIndex < s.par.reasmCap.toNat ∧
      s.bodyByte b = .next { s with
        rxBuf := s.rxBuf.write s.bodyIndex b, rxAcc := crcStep s.rxAcc b, bodyIdx := s.bodyIdx + 1#16
        st := if s.bodyIdx.toNat + 1 < s.fragLen.toNat then .readBody else .readCrc }) ∨
    (s.par.reasmCap.toNat ≤ s.bodyIndex ∧ s.bodyByte b = .fault (.rxBufRange s.bodyIndex)) := by
  unfold State.bodyByte
  split
  · exact .inl ⟨‹_›, rfl⟩
  · exact .inr ⟨by omega, rfl⟩

/-- READ_CRC (R175). -/
theorem State.crcByte_cases (s : State) (b : Byte) :
    (s.crcIdx = 0 ∧ s.crcByte b = { s with rxCrc := setLo s.rxCrc b, crcIdx := 1 }) ∨
    (s.crcIdx ≠ 0 ∧ s.crcByte b = { s with rxCrc := setHi s.rxCrc b, crcIdx := 2, st := .validate }) := by
  unfold State.crcByte
  split
  · exact .inl ⟨‹_›, rfl⟩
  · exact .inr ⟨‹_›, rfl⟩

/-- VALIDATE (R176, R177). -/
theorem State.validateFrag_cases (s : State) :
    (s.fragCrc = s.rxCrc ∧
      s.validateFrag = { s with
        calcCrc := s.fragCrc, rxLen := s.rxLen + s.fragLen, fragCnt := satInc s.fragCnt
        moreLast := s.more, ackFinal := !s.more, st := .sendAck }) ∨
    (s.fragCrc ≠ s.rxCrc ∧ s.validateFrag = State.raiseError { s with calcCrc := s.fragCrc } .crcMismatch) := by
  unfold State.validateFrag
  split
  · exact .inl ⟨‹_›, rfl⟩
  · exact .inr ⟨‹_›, rfl⟩

/-- A write of a TX-group register (R230). -/
theorem State.txGroup_cases (s k : State) :
    (s.st = .idle ∧ s.txGroup k = k) ∨ (s.st ≠ .idle ∧ s.txGroup k = s.ignored) := by
  unfold State.txGroup
  split
  · next h => exact .inr ⟨s.busy_eq_true.mp h, rfl⟩
  · next h => exact .inl ⟨s.busy_eq_false.mp (by simpa using h), rfl⟩

/-- TX_DATA while not busy (R229). -/
theorem State.pushTx_cases (s : State) (d : Byte) :
    (s.txPtr.toNat < Config.txCap ∧
      s.pushTx d = { s with txBuf := s.txBuf.write s.txPtr.toNat d, txPtr := s.txPtr + 1#16 }) ∨
    (Config.txCap ≤ s.txPtr.toNat ∧ s.pushTx d = { s with txOvf := true }) := by
  unfold State.pushTx
  split
  · exact .inl ⟨‹_›, rfl⟩
  · exact .inr ⟨by omega, rfl⟩

end Sys2Proof.Machine
end

