-- ==== Sys2Proof/Laws/Exec.lean ====
section
/-! SUPPORT. What running one instruction can do: a host instruction, by the shape of its next state; a wire instruction;
and that an access of the host is always a host instruction. -/

namespace Sys2Proof.Machine

/-- The instructions a host access can be: every one but those of the wire. -/
def onWire : Instr → Bool
  | .txFrame => true
  | .txAck => true
  | .txNak => true
  | .rxAck => true
  | .rxNak => true
  | .rxDiscard _ => true
  | .rxFrame _ => true
  | _ => false

/-- Everything a host instruction can do: the shapes its next state can have. -/
inductive HostEffect (s : State) : State → Prop where
  | nothing : HostEffect s s
  | returned (v : Byte) : HostEffect s (s.returns v)
  | refusedIgn : HostEffect s s.ignored
  | flagsCleared : HostEffect s s.clearFlags
  /-- CFG, RX_PTR, CRC_CHK and the checksum units: writable in every state. -/
  | wrote (irqEn : Bool) (rxPtr crcAcc crcChk : Half) (tckSum : Byte) :
      HostEffect s { s with irqEn, rxPtr, crcAcc, crcChk, tckSum }
  | readResponse : s.rxPtr.toNat < s.rxLen.toNat →
      HostEffect s { s with rdata := s.rxRead s.rxPtr.toNat, rxPtr := s.rxPtr + 1#16 }
  | underran : s.rxLen.toNat ≤ s.rxPtr.toNat → HostEffect s { s with rdata := 0x00#8, rxUnf := true }
  /-- The registers of the TX group, while not busy. -/
  | wroteRequest (seq svc : Byte) (txPlen txPtr : Half) : s.st = .idle →
      HostEffect s { s with seq, svc, txPlen, txPtr }
  | pushed (d : Byte) : s.st = .idle → HostEffect s (s.pushTx d)
  | tooLong : s.st = .idle → Config.txCap < s.txPlen.toNat → HostEffect s (s.clearOutcome.raiseError .lengthError)
  | accepted : s.st = .idle → s.txPlen.toNat ≤ Config.txCap →
      HostEffect s { s.clearOutcome with txIdx := 0#14, st := .send }
  | sessionInit : s.st = .idle → HostEffect s { s.clearFlags with ctrlBit := false, errCode := 0x00#8 }

/-- A TX-group write of a register, busy or not (R230). -/
theorem HostEffect.group {s k : State} (h : s.st = .idle → HostEffect s k) : HostEffect s (s.txGroup k) := by
  obtain ⟨hi, e⟩ | ⟨-, e⟩ := s.txGroup_cases k <;> rw [e]
  · exact h hi
  · exact .refusedIgn

/-- Every host instruction ends in a next state, and in one of these. -/
theorem exec_host (i : Instr) (s : State) (h : onWire i = false) : ∃ t, exec i s = .next t ∧ HostEffect s t := by
  cases i with
  | cmdNop => exact ⟨_, rfl, .nothing⟩
  | cmdExchange =>
    simp only [exec, execCmdExchange]
    split
    · exact ⟨_, rfl, .refusedIgn⟩
    · next hb =>
      have hi := s.busy_eq_false.mp (by simpa using hb)
      split
      · exact ⟨_, rfl, .tooLong hi ‹_›⟩
      · exact ⟨_, rfl, .accepted hi (by omega)⟩
  | cmdSessionInit =>
    simp only [exec, execCmdSessionInit]
    split
    · exact ⟨_, rfl, .refusedIgn⟩
    · next hb => exact ⟨_, rfl, .sessionInit (s.busy_eq_false.mp (by simpa using hb))⟩
  | cmdClrFlags => exact ⟨_, rfl, .flagsCleared⟩
  | cmdCrcInit => exact ⟨_, rfl, .wrote _ _ _ _ _⟩
  | cmdTckInit => exact ⟨_, rfl, .wrote _ _ _ _ _⟩
  | cmdReserved06 low => exact ⟨_, rfl, .refusedIgn⟩
  | cmdReserved08 low => exact ⟨_, rfl, .refusedIgn⟩
  | cmdReserved10 low => exact ⟨_, rfl, .refusedIgn⟩
  | cmdReserved20 low => exact ⟨_, rfl, .refusedIgn⟩
  | cmdReserved40 low => exact ⟨_, rfl, .refusedIgn⟩
  | cmdReserved80 low => exact ⟨_, rfl, .refusedIgn⟩
  | rdCmd => exact ⟨_, rfl, .returned _⟩
  | rdStat => exact ⟨_, rfl, .returned _⟩
  | wrStat d => exact ⟨_, rfl, .nothing⟩
  | rdErrCode => exact ⟨_, rfl, .returned _⟩
  | wrErrCode d => exact ⟨_, rfl, .nothing⟩
  | rdCfg => exact ⟨_, rfl, .returned _⟩
  | wrCfg d => exact ⟨_, rfl, .wrote _ _ _ _ _⟩
  | rdSeq => exact ⟨_, rfl, .returned _⟩
  | wrSeq d => exact ⟨_, rfl, .group fun hi => .wroteRequest _ _ _ _ hi⟩
  | rdSvc => exact ⟨_, rfl, .returned _⟩
  | wrSvc d => exact ⟨_, rfl, .group fun hi => .wroteRequest _ _ _ _ hi⟩
  | rdTxPlenLo => exact ⟨_, rfl, .returned _⟩
  | wrTxPlenLo d => exact ⟨_, rfl, .group fun hi => .wroteRequest _ _ _ _ hi⟩
  | rdTxPlenHi => exact ⟨_, rfl, .returned _⟩
  | wrTxPlenHi d => exact ⟨_, rfl, .group fun hi => .wroteRequest _ _ _ _ hi⟩
  | rdTxPtrLo => exact ⟨_, rfl, .returned _⟩
  | wrTxPtrLo d => exact ⟨_, rfl, .group fun hi => .wroteRequest _ _ _ _ hi⟩
  | rdTxPtrHi => exact ⟨_, rfl, .returned _⟩
  | wrTxPtrHi d => exact ⟨_, rfl, .group fun hi => .wroteRequest _ _ _ _ hi⟩
  | rdTxData => exact ⟨_, rfl, .returned _⟩
  | wrTxData d => exact ⟨_, rfl, .group fun hi => .pushed d hi⟩
  | rdRxLenLo => exact ⟨_, rfl, .returned _⟩
  | wrRxLenLo d => exact ⟨_, rfl, .nothing⟩
  | rdRxLenHi => exact ⟨_, rfl, .returned _⟩
  | wrRxLenHi d => exact ⟨_, rfl, .nothing⟩
  | rdRxPtrLo => exact ⟨_, rfl, .returned _⟩
  | wrRxPtrLo d => exact ⟨_, rfl, .wrote _ _ _ _ _⟩
  | rdRxPtrHi => exact ⟨_, rfl, .returned _⟩
  | wrRxPtrHi d => exact ⟨_, rfl, .wrote _ _ _ _ _⟩
  | rdRxData =>
    simp only [exec, execRdRxData]
    split
    · exact ⟨_, rfl, .readResponse ‹_›⟩
    · exact ⟨_, rfl, .underran (by omega)⟩
  | wrRxData d => exact ⟨_, rfl, .nothing⟩
  | rdStatus => exact ⟨_, rfl, .returned _⟩
  | wrStatus d => exact ⟨_, rfl, .nothing⟩
  | rdFragCnt => exact ⟨_, rfl, .returned _⟩
  | wrFragCnt d => exact ⟨_, rfl, .nothing⟩
  | rdNakCnt => exact ⟨_, rfl, .returned _⟩
  | wrNakCnt d => exact ⟨_, rfl, .nothing⟩
  | rdFlags2 => exact ⟨_, rfl, .returned _⟩
  | wrFlags2 d => exact ⟨_, rfl, .nothing⟩
  | rdCrcData => exact ⟨_, rfl, .returned _⟩
  | wrCrcData d => exact ⟨_, rfl, .wrote _ _ _ _ _⟩
  | rdCrcResLo => exact ⟨_, rfl, .returned _⟩
  | wrCrcResLo d => exact ⟨_, rfl, .nothing⟩
  | rdCrcResHi => exact ⟨_, rfl, .returned _⟩
  | wrCrcResHi d => exact ⟨_, rfl, .nothing⟩
  | rdCrcChkLo => exact ⟨_, rfl, .returned _⟩
  | wrCrcChkLo d => exact ⟨_, rfl, .wrote _ _ _ _ _⟩
  | rdCrcChkHi => exact ⟨_, rfl, .returned _⟩
  | wrCrcChkHi d => exact ⟨_, rfl, .wrote _ _ _ _ _⟩
  | rdTckData => exact ⟨_, rfl, .returned _⟩
  | wrTckData d => exact ⟨_, rfl, .wrote _ _ _ _ _⟩
  | rdTckRes => exact ⟨_, rfl, .returned _⟩
  | wrTckRes d => exact ⟨_, rfl, .nothing⟩
  | rdRxcrcLo => exact ⟨_, rfl, .returned _⟩
  | wrRxcrcLo d => exact ⟨_, rfl, .nothing⟩
  | rdRxcrcHi => exact ⟨_, rfl, .returned _⟩
  | wrRxcrcHi d => exact ⟨_, rfl, .nothing⟩
  | rdCalccrcLo => exact ⟨_, rfl, .returned _⟩
  | wrCalccrcLo d => exact ⟨_, rfl, .nothing⟩
  | rdCalccrcHi => exact ⟨_, rfl, .returned _⟩
  | wrCalccrcHi d => exact ⟨_, rfl, .nothing⟩
  | rdHdr0 => exact ⟨_, rfl, .returned _⟩
  | wrHdr0 d => exact ⟨_, rfl, .nothing⟩
  | rdHdr1 => exact ⟨_, rfl, .returned _⟩
  | wrHdr1 d => exact ⟨_, rfl, .nothing⟩
  | rdHdr2 => exact ⟨_, rfl, .returned _⟩
  | wrHdr2 d => exact ⟨_, rfl, .nothing⟩
  | rdHdr3 => exact ⟨_, rfl, .returned _⟩
  | wrHdr3 d => exact ⟨_, rfl, .nothing⟩
  | rdHdr4 => exact ⟨_, rfl, .returned _⟩
  | wrHdr4 d => exact ⟨_, rfl, .nothing⟩
  | rdHdr5 => exact ⟨_, rfl, .returned _⟩
  | wrHdr5 d => exact ⟨_, rfl, .nothing⟩
  | rdReserved0B => exact ⟨_, rfl, .returned _⟩
  | wrReserved0B d => exact ⟨_, rfl, .nothing⟩
  | rdReserved26 low => exact ⟨_, rfl, .returned _⟩
  | wrReserved26 low d => exact ⟨_, rfl, .nothing⟩
  | rdReserved28 low => exact ⟨_, rfl, .returned _⟩
  | wrReserved28 low d => exact ⟨_, rfl, .nothing⟩
  | rdReserved30 low => exact ⟨_, rfl, .returned _⟩
  | wrReserved30 low d => exact ⟨_, rfl, .nothing⟩
  | rdReserved40 low => exact ⟨_, rfl, .returned _⟩
  | wrReserved40 low d => exact ⟨_, rfl, .nothing⟩
  | rdReserved80 low => exact ⟨_, rfl, .returned _⟩
  | wrReserved80 low d => exact ⟨_, rfl, .nothing⟩
  | txFrame => cases h
  | txAck => cases h
  | txNak => cases h
  | rxAck => cases h
  | rxNak => cases h
  | rxDiscard b => cases h
  | rxFrame b => cases h
  | svcIdent => exact ⟨_, rfl, .group fun hi => .wroteRequest _ _ _ _ hi⟩
  | svcTerminate => exact ⟨_, rfl, .group fun hi => .wroteRequest _ _ _ _ hi⟩
  | svcFullRead => exact ⟨_, rfl, .group fun hi => .wroteRequest _ _ _ _ hi⟩
  | svcFullWrite => exact ⟨_, rfl, .group fun hi => .wroteRequest _ _ _ _ hi⟩
  | svcPartialWrite => exact ⟨_, rfl, .group fun hi => .wroteRequest _ _ _ _ hi⟩
  | svcLogon => exact ⟨_, rfl, .group fun hi => .wroteRequest _ _ _ _ hi⟩
  | svcSecurity => exact ⟨_, rfl, .group fun hi => .wroteRequest _ _ _ _ hi⟩
  | svcLogoff => exact ⟨_, rfl, .group fun hi => .wroteRequest _ _ _ _ hi⟩
  | svcNegotiate => exact ⟨_, rfl, .group fun hi => .wroteRequest _ _ _ _ hi⟩

/-- A wire instruction is never refused: it ends in a next state or a fault. -/
theorem exec_wire_cases (i : Instr) (s : State) (h : onWire i = true) :
    (∃ t, exec i s = .next t) ∨ ∃ f, exec i s = .fault f := by
  cases i <;> try cases h
  all_goals simp only [exec, execTxFrame, execTxAck, execTxNak, execRxAck, execRxNak, execRxDiscard, execRxFrame]
  all_goals split
  all_goals first
    | exact .inl ⟨_, rfl⟩
    | (split <;> first | exact .inl ⟨_, rfl⟩ | exact .inr ⟨_, rfl⟩)
    | (obtain ⟨-, e⟩ | ⟨-, e⟩ := s.bodyByte_cases _ <;> rw [e] <;> first | exact .inl ⟨_, rfl⟩ | exact .inr ⟨_, rfl⟩)

theorem decodeCommand_host (c : Byte) : onWire (decodeCommand c) = false := by
  unfold decodeCommand
  split <;> first | rfl | skip
  repeat' first | rfl | split

theorem decodeWrite_host (a d : Byte) : onWire (decodeWrite a d) = false := by
  unfold decodeWrite
  split <;> first | rfl | exact decodeCommand_host d | skip
  repeat' first | rfl | split

theorem decodeRead_host (a : Byte) : onWire (decodeRead a) = false := by
  unfold decodeRead
  split <;> first | rfl | skip
  repeat' first | rfl | split

theorem decodeService_host (b : Byte) (i : Instr) (h : decodeService b = .ok i) : onWire i = false := by
  unfold decodeService at h
  split at h <;> cases h <;> rfl

/-- Every access of the host decodes, to a host instruction (30_encoding R96, R92). -/
theorem HostAccess.decoded_ok (a : HostAccess) : ∃ i, a.decoded = .ok i ∧ onWire i = false := by
  cases a with
  | wr a d => exact ⟨_, rfl, decodeWrite_host a d⟩
  | rd a => exact ⟨_, rfl, decodeRead_host a⟩
  | svc b =>
    simp only [HostAccess.decoded, HostAccess.word, serviceWrite, decode, writeWord]
    split
    · exact ⟨_, rfl, decodeService_host b _ ‹_›⟩
    · exact ⟨_, rfl, decodeWrite_host _ _⟩

end Sys2Proof.Machine
end

