-- ==== Sys2Proof/Laws/Framer.lean ====
section
/-! SUPPORT. The checksum functions over lists, and the encoder's bytes: what each index of TxFrame is, and what the
encoder reads of TX_BUF. -/

namespace Sys2Proof.Machine

@[simp] theorem crcFeed_nil (c : Half) : crcFeed c [] = c := rfl

@[simp] theorem crcFeed_cons (c : Half) (b : Byte) (bs : List Byte) : crcFeed c (b :: bs) = crcFeed (crcStep c b) bs := rfl

theorem crcFeed_append (c : Half) (xs ys : List Byte) : crcFeed c (xs ++ ys) = crcFeed (crcFeed c xs) ys := by
  simp [crcFeed]

theorem crcFeed_snoc (c : Half) (xs : List Byte) (b : Byte) : crcFeed c (xs ++ [b]) = crcStep (crcFeed c xs) b := by
  simp [crcFeed_append]

theorem tckFeed_cons (s b : Byte) (bs : List Byte) : tckFeed s (b :: bs) = tckFeed (s + b) bs := rfl

/-- The byte sum is the sum of the byte values, modulo 256 (R115). -/
theorem tckFeed_toNat (s : Byte) (bs : List Byte) :
    (tckFeed s bs).toNat = (s.toNat + (bs.map BitVec.toNat).sum) % 256 := by
  induction bs generalizing s with
  | nil => simp [tckFeed, Nat.mod_eq_of_lt s.isLt]
  | cons b bs ih =>
    rw [tckFeed_cons, ih, BitVec.toNat_add]
    simp only [List.map_cons, List.sum_cons]
    omega

@[simp] theorem frameHead_length (svc : Byte) (len : Half) (cb : Bool) (seq : Byte) :
    (frameHead svc len cb seq).length = 7 := rfl

@[simp] theorem trailer_length (body : List Byte) : (trailer body).length = 2 := rfl

/-- Encode succeeds exactly up to TXCAP payload bytes (R131). -/
theorem encodeFrame_isSome (svc : Byte) (p : List Byte) (cb : Bool) (seq : Byte) :
    (encodeFrame svc p cb seq).isSome = true ↔ p.length ≤ Config.txCap := by
  unfold encodeFrame Config.maxData Config.txCap
  split <;> simp <;> omega

/-- A frame has nine bytes more than its payload (R163). -/
theorem encodeFrame_length (svc : Byte) (p : List Byte) (cb : Bool) (seq : Byte) (f : List Byte)
    (h : encodeFrame svc p cb seq = some f) : f.length = p.length + 9 := by
  unfold encodeFrame at h
  split at h
  · cases h
    simp
    omega
  · cases h

/-- Written bytes are read, in order. -/
theorem State.txBytes_eq (s : State) (p : List Byte) (i : Nat) (hcap : i + p.length ≤ Config.txCap)
    (h : ∀ j b, p[j]? = some b → s.txBuf.read (i + j) = some b) : s.txBytes i p.length = .ok p := by
  induction p generalizing i with
  | nil => rfl
  | cons b p ih =>
    have h0 : s.txRead i = .ok b := (s.txRead_ok_iff i b).mpr ⟨by simp at hcap; omega, by simpa using h 0 b rfl⟩
    have h1 : s.txBytes (i + 1) p.length = .ok p :=
      ih (i + 1) (by simp at hcap; omega) fun j c hj => by
        have := h (j + 1) c (by simpa using hj)
        rwa [show i + (j + 1) = i + 1 + j by omega] at this
    simp [State.txBytes, h0, h1]

/-- A fault of the encoder is that of the first byte it cannot read. -/
theorem State.txBytes_error (s : State) (i n : Nat) (f : Fault) (h : s.txBytes i n = .error f) :
    ∃ j, i ≤ j ∧ j < i + n ∧ s.txRead j = .error f := by
  induction n generalizing i with
  | zero => cases h
  | succ n ih =>
    unfold State.txBytes at h
    split at h
    · next g hg =>
      cases h
      exact ⟨i, by omega, by omega, hg⟩
    · split at h
      · next g hg =>
        cases h
        obtain ⟨j, h1, h2, h3⟩ := ih (i + 1) hg
        exact ⟨j, by omega, by omega, h3⟩
      · cases h

/-- What each index of TxFrame is (R132): the head, the payload, the trailer low byte first, nothing past the end. -/
theorem State.txFrameByte_cases (s : State) (i : Nat) :
    (i < 7 ∧ s.txFrameByte i = .ok (s.txHead.getD i 0#8)) ∨
    (7 ≤ i ∧ i < 7 + s.txPlen.toNat ∧ s.txFrameByte i = s.txRead (i - 7)) ∨
    (i = 7 + s.txPlen.toNat ∧ s.txFrameByte i = s.txCrc.map lo) ∨
    (i = 8 + s.txPlen.toNat ∧ s.txFrameByte i = s.txCrc.map hi) ∨
    (s.frameLen ≤ i ∧ s.txFrameByte i = .error (.txIdxRange i)) := by
  unfold State.txFrameByte State.frameLen
  split
  · exact .inl ⟨‹_›, rfl⟩
  · split
    · exact .inr (.inl ⟨by omega, ‹_›, rfl⟩)
    · split
      · exact .inr (.inr (.inl ⟨‹_›, rfl⟩))
      · split
        · exact .inr (.inr (.inr (.inl ⟨‹_›, rfl⟩)))
        · exact .inr (.inr (.inr (.inr ⟨by omega, rfl⟩)))

/-- The bytes of TxFrame depend on nothing but SVC, SEQ, TX_PLEN, TX_BUF and CTRL_BIT (R132). -/
theorem State.txFrameByte_congr (s t : State) (h : t.txSource = s.txSource) (i : Nat) :
    t.txFrameByte i = s.txFrameByte i := by
  simp only [State.txSource, Prod.mk.injEq] at h
  obtain ⟨hsvc, hseq, hplen, hbuf, hctrl⟩ := h
  have hread : ∀ j, t.txRead j = s.txRead j := fun j => by simp [State.txRead, hbuf]
  have hbytes : ∀ n j, t.txBytes j n = s.txBytes j n := by
    intro n
    induction n with
    | zero => exact fun _ => rfl
    | succ n ih => exact fun j => by simp [State.txBytes, hread, ih]
  simp [State.txFrameByte, State.txHead, State.txCrc, State.payload, hsvc, hseq, hplen, hctrl, hread, hbytes]

@[simp] theorem State.tookTurn_txFrameByte (s : State) (ts : List Turn) (i : Nat) :
    (s.tookTurn ts).txFrameByte i = s.txFrameByte i := State.txFrameByte_congr s (s.tookTurn ts) rfl i

end Sys2Proof.Machine
end

