-- ==== Sys2Proof/Laws/Memory.lean ====
section
/-! SUPPORT. The laws of a buffer: a read after a write, the canonical form, the indices listed, what has been written. -/

namespace Sys2Proof.Machine

@[simp] theorem Memory.read_nil (i : Nat) : Memory.read [] i = none := rfl

/-- A write gives the byte at its index and leaves every other index alone. -/
theorem Memory.read_write (m : Memory) (i j : Nat) (b : Byte) :
    (m.write i b).read j = if j = i then some b else m.read j := by
  induction m with
  | nil => simp [Memory.write, Memory.read, eq_comm]
  | cons c m ih =>
    obtain ⟨a, x⟩ := c
    simp only [Memory.write]
    split
    · simp only [Memory.read]; split <;> simp_all [eq_comm]
    · split
      · subst_vars; simp only [Memory.read]; split <;> simp_all [eq_comm]
      · simp only [Memory.read, ih]; split <;> split <;> simp_all

@[simp] theorem Memory.read_write_same (m : Memory) (i : Nat) (b : Byte) : (m.write i b).read i = some b := by
  simp [Memory.read_write]

theorem Memory.read_write_other (m : Memory) (i j : Nat) (b : Byte) (h : j ≠ i) :
    (m.write i b).read j = m.read j := by
  simp [Memory.read_write, h]

@[simp] theorem Memory.wf_nil : Memory.wf [] = true := rfl

/-- A write keeps the canonical form, and puts no index below both `i` and the first one. -/
theorem Memory.write_wf_aux (m : Memory) (i : Nat) (b : Byte) (h : m.wf = true) :
    (m.write i b).wf = true ∧
      ∀ k x, k < i → Memory.wf ((k, x) :: m) = true → Memory.wf ((k, x) :: m.write i b) = true := by
  induction m with
  | nil => exact ⟨rfl, fun k x hk _ => by simp [Memory.write, Memory.wf, hk]⟩
  | cons c m ih =>
    obtain ⟨a, y⟩ := c
    have hm : Memory.wf m = true := by
      cases m with
      | nil => rfl
      | cons d m => obtain ⟨e, z⟩ := d; simp [Memory.wf] at h; exact h.2
    simp only [Memory.write]
    split
    · next hi =>
      have hw : Memory.wf ((i, b) :: (a, y) :: m) = true := by simp only [Memory.wf, hi, decide_true, Bool.true_and]; exact h
      exact ⟨hw, fun k x hk _ => by simp only [Memory.wf, hk, decide_true, Bool.true_and] at hw ⊢; exact hw⟩
    · split
      · next hi =>
        subst hi
        have hw : Memory.wf ((i, b) :: m) = true := by
          cases m with
          | nil => rfl
          | cons d m => obtain ⟨e, z⟩ := d; simpa [Memory.wf] using h
        exact ⟨hw, fun k x hk _ => by simp only [Memory.wf, hk, decide_true, Bool.true_and]; exact hw⟩
      · next h1 h2 =>
        have hw := (ih hm).2 a y (by omega) h
        refine ⟨hw, fun k x hk hkx => ?_⟩
        simp only [Memory.wf, Bool.and_eq_true] at hkx ⊢
        exact ⟨hkx.1, hw⟩

theorem Memory.write_wf (m : Memory) (i : Nat) (b : Byte) (h : m.wf = true) : (m.write i b).wf = true :=
  (Memory.write_wf_aux m i b h).1

theorem Memory.write_below (m : Memory) (i n : Nat) (b : Byte) (h : m.below n = true) (hi : i < n) :
    (m.write i b).below n = true := by
  induction m with
  | nil => simp [Memory.write, Memory.below, hi]
  | cons c m ih =>
    obtain ⟨a, x⟩ := c
    have hc : a < n ∧ Memory.below m n = true := by simpa only [Memory.below, List.all_cons, Bool.and_eq_true, decide_eq_true_eq] using h
    simp only [Memory.write]
    split
    · simpa only [Memory.below, List.all_cons, Bool.and_eq_true, decide_eq_true_eq] using ⟨hi, hc⟩
    · split
      · simpa only [Memory.below, List.all_cons, Bool.and_eq_true, decide_eq_true_eq] using ⟨hi, hc.2⟩
      · simpa only [Memory.below, List.all_cons, Bool.and_eq_true, decide_eq_true_eq] using ⟨hc.1, ih hc.2⟩

theorem Memory.written_write (m : Memory) (i j k : Nat) (b : Byte) (h : m.written i j) : (m.write k b).written i j := by
  intro a h1 h2
  rw [Memory.read_write]
  split
  · rfl
  · exact h a h1 h2

/-- Writing the byte at `j` extends what has been written by one. -/
theorem Memory.written_snoc (m : Memory) (i j : Nat) (b : Byte) (h : m.written i j) :
    (m.write j b).written i (j + 1) := by
  intro a h1 h2
  rw [Memory.read_write]
  split
  · rfl
  · exact h a h1 (by omega)

theorem Memory.written_trans (m : Memory) (i j k : Nat) (h1 : m.written i j) (h2 : m.written j k) : m.written i k := by
  intro a ha hk
  by_cases h : a < j
  · exact h1 a ha h
  · exact h2 a (by omega) hk

theorem Memory.written_empty (m : Memory) (i : Nat) : m.written i i := fun a h1 h2 => absurd h1 (by omega)

/-- A byte that has been written reads as itself, no free value. -/
theorem State.rxRead_written (s : State) (i : Nat) (b : Byte) (h : s.rxBuf.read i = some b) : s.rxRead i = b := by
  simp [State.rxRead, h]

/-- The buffers after reset have the canonical form. -/
theorem State.reset_buffers_wf : State.reset.txBuf.wf = true ∧ State.reset.rxBuf.wf = true := ⟨rfl, rfl⟩

/-- TX_DATA keeps the canonical form of TX_BUF, and its range. -/
theorem State.pushTx_wf (s : State) (d : Byte) (h : s.txBuf.wf = true ∧ s.txBuf.below Config.txCap = true) :
    (s.pushTx d).txBuf.wf = true ∧ (s.pushTx d).txBuf.below Config.txCap = true := by
  unfold State.pushTx
  split
  · exact ⟨Memory.write_wf _ _ _ h.1, Memory.write_below _ _ _ _ h.2 ‹_›⟩
  · exact h

/-- A body byte keeps the canonical form of RX_BUF, and its range. -/
theorem State.bodyByte_wf (s t : State) (b : Byte) (e : s.bodyByte b = .next t)
    (h : s.rxBuf.wf = true ∧ s.rxBuf.below s.par.reasmCap.toNat = true) :
    t.rxBuf.wf = true ∧ t.rxBuf.below t.par.reasmCap.toNat = true := by
  unfold State.bodyByte at e
  split at e
  · cases e
    exact ⟨Memory.write_wf _ _ _ h.1, Memory.write_below _ _ _ _ h.2 ‹_›⟩
  · cases e

end Sys2Proof.Machine
end

