-- ==== Sys2Proof/Laws/PerInstr.lean ====
section
/-! SUPPORT. The families stated for every instruction. `FitsRow`: what the encoder gives for an instruction has the format, and
under the mask the bits, of its row of spec/opcode_table.json. The rows are written here from the table, not from the
encoder. -/

namespace Sys2Proof.Laws.FitsRow

/-- A row's format and, for each byte with bits 7..0 first, its mask and match. -/
structure Row where
  fmt : Format
  bits : List (Byte × Byte)
deriving DecidableEq, Repr

/-- The row of an instruction. RX_DISCARD's row has an empty mask. RX_FRAME's row gives the first byte of a fragment; its
instruction is any byte of one (30_encoding R90), so its bits here are free. -/
def row : Instr → Row
  | .cmdNop => ⟨.hostWr, [(0xFF#8, 0x00#8), (0xFF#8, 0x00#8)]⟩
  | .cmdExchange => ⟨.hostWr, [(0xFF#8, 0x01#8), (0xFF#8, 0x00#8)]⟩
  | .cmdSessionInit => ⟨.hostWr, [(0xFF#8, 0x02#8), (0xFF#8, 0x00#8)]⟩
  | .cmdClrFlags => ⟨.hostWr, [(0xFF#8, 0x03#8), (0xFF#8, 0x00#8)]⟩
  | .cmdCrcInit => ⟨.hostWr, [(0xFF#8, 0x04#8), (0xFF#8, 0x00#8)]⟩
  | .cmdTckInit => ⟨.hostWr, [(0xFF#8, 0x05#8), (0xFF#8, 0x00#8)]⟩
  | .cmdReserved06 _ => ⟨.hostWr, [(0xFE#8, 0x06#8), (0xFF#8, 0x00#8)]⟩
  | .cmdReserved08 _ => ⟨.hostWr, [(0xF8#8, 0x08#8), (0xFF#8, 0x00#8)]⟩
  | .cmdReserved10 _ => ⟨.hostWr, [(0xF0#8, 0x10#8), (0xFF#8, 0x00#8)]⟩
  | .cmdReserved20 _ => ⟨.hostWr, [(0xE0#8, 0x20#8), (0xFF#8, 0x00#8)]⟩
  | .cmdReserved40 _ => ⟨.hostWr, [(0xC0#8, 0x40#8), (0xFF#8, 0x00#8)]⟩
  | .cmdReserved80 _ => ⟨.hostWr, [(0x80#8, 0x80#8), (0xFF#8, 0x00#8)]⟩
  | .rdCmd => ⟨.hostRd, [(0x00#8, 0x00#8), (0xFF#8, 0x00#8)]⟩
  | .rdStat => ⟨.hostRd, [(0x00#8, 0x00#8), (0xFF#8, 0x01#8)]⟩
  | .wrStat _ => ⟨.hostWr, [(0x00#8, 0x00#8), (0xFF#8, 0x01#8)]⟩
  | .rdErrCode => ⟨.hostRd, [(0x00#8, 0x00#8), (0xFF#8, 0x02#8)]⟩
  | .wrErrCode _ => ⟨.hostWr, [(0x00#8, 0x00#8), (0xFF#8, 0x02#8)]⟩
  | .rdCfg => ⟨.hostRd, [(0x00#8, 0x00#8), (0xFF#8, 0x03#8)]⟩
  | .wrCfg _ => ⟨.hostWr, [(0x00#8, 0x00#8), (0xFF#8, 0x03#8)]⟩
  | .rdSeq => ⟨.hostRd, [(0x00#8, 0x00#8), (0xFF#8, 0x04#8)]⟩
  | .wrSeq _ => ⟨.hostWr, [(0x00#8, 0x00#8), (0xFF#8, 0x04#8)]⟩
  | .rdSvc => ⟨.hostRd, [(0x00#8, 0x00#8), (0xFF#8, 0x05#8)]⟩
  | .wrSvc _ => ⟨.hostWr, [(0x00#8, 0x00#8), (0xFF#8, 0x05#8)]⟩
  | .rdTxPlenLo => ⟨.hostRd, [(0x00#8, 0x00#8), (0xFF#8, 0x06#8)]⟩
  | .wrTxPlenLo _ => ⟨.hostWr, [(0x00#8, 0x00#8), (0xFF#8, 0x06#8)]⟩
  | .rdTxPlenHi => ⟨.hostRd, [(0x00#8, 0x00#8), (0xFF#8, 0x07#8)]⟩
  | .wrTxPlenHi _ => ⟨.hostWr, [(0x00#8, 0x00#8), (0xFF#8, 0x07#8)]⟩
  | .rdTxPtrLo => ⟨.hostRd, [(0x00#8, 0x00#8), (0xFF#8, 0x08#8)]⟩
  | .wrTxPtrLo _ => ⟨.hostWr, [(0x00#8, 0x00#8), (0xFF#8, 0x08#8)]⟩
  | .rdTxPtrHi => ⟨.hostRd, [(0x00#8, 0x00#8), (0xFF#8, 0x09#8)]⟩
  | .wrTxPtrHi _ => ⟨.hostWr, [(0x00#8, 0x00#8), (0xFF#8, 0x09#8)]⟩
  | .rdTxData => ⟨.hostRd, [(0x00#8, 0x00#8), (0xFF#8, 0x0A#8)]⟩
  | .wrTxData _ => ⟨.hostWr, [(0x00#8, 0x00#8), (0xFF#8, 0x0A#8)]⟩
  | .rdRxLenLo => ⟨.hostRd, [(0x00#8, 0x00#8), (0xFF#8, 0x0C#8)]⟩
  | .wrRxLenLo _ => ⟨.hostWr, [(0x00#8, 0x00#8), (0xFF#8, 0x0C#8)]⟩
  | .rdRxLenHi => ⟨.hostRd, [(0x00#8, 0x00#8), (0xFF#8, 0x0D#8)]⟩
  | .wrRxLenHi _ => ⟨.hostWr, [(0x00#8, 0x00#8), (0xFF#8, 0x0D#8)]⟩
  | .rdRxPtrLo => ⟨.hostRd, [(0x00#8, 0x00#8), (0xFF#8, 0x0E#8)]⟩
  | .wrRxPtrLo _ => ⟨.hostWr, [(0x00#8, 0x00#8), (0xFF#8, 0x0E#8)]⟩
  | .rdRxPtrHi => ⟨.hostRd, [(0x00#8, 0x00#8), (0xFF#8, 0x0F#8)]⟩
  | .wrRxPtrHi _ => ⟨.hostWr, [(0x00#8, 0x00#8), (0xFF#8, 0x0F#8)]⟩
  | .rdRxData => ⟨.hostRd, [(0x00#8, 0x00#8), (0xFF#8, 0x10#8)]⟩
  | .wrRxData _ => ⟨.hostWr, [(0x00#8, 0x00#8), (0xFF#8, 0x10#8)]⟩
  | .rdStatus => ⟨.hostRd, [(0x00#8, 0x00#8), (0xFF#8, 0x11#8)]⟩
  | .wrStatus _ => ⟨.hostWr, [(0x00#8, 0x00#8), (0xFF#8, 0x11#8)]⟩
  | .rdFragCnt => ⟨.hostRd, [(0x00#8, 0x00#8), (0xFF#8, 0x12#8)]⟩
  | .wrFragCnt _ => ⟨.hostWr, [(0x00#8, 0x00#8), (0xFF#8, 0x12#8)]⟩
  | .rdNakCnt => ⟨.hostRd, [(0x00#8, 0x00#8), (0xFF#8, 0x13#8)]⟩
  | .wrNakCnt _ => ⟨.hostWr, [(0x00#8, 0x00#8), (0xFF#8, 0x13#8)]⟩
  | .rdFlags2 => ⟨.hostRd, [(0x00#8, 0x00#8), (0xFF#8, 0x14#8)]⟩
  | .wrFlags2 _ => ⟨.hostWr, [(0x00#8, 0x00#8), (0xFF#8, 0x14#8)]⟩
  | .rdCrcData => ⟨.hostRd, [(0x00#8, 0x00#8), (0xFF#8, 0x15#8)]⟩
  | .wrCrcData _ => ⟨.hostWr, [(0x00#8, 0x00#8), (0xFF#8, 0x15#8)]⟩
  | .rdCrcResLo => ⟨.hostRd, [(0x00#8, 0x00#8), (0xFF#8, 0x16#8)]⟩
  | .wrCrcResLo _ => ⟨.hostWr, [(0x00#8, 0x00#8), (0xFF#8, 0x16#8)]⟩
  | .rdCrcResHi => ⟨.hostRd, [(0x00#8, 0x00#8), (0xFF#8, 0x17#8)]⟩
  | .wrCrcResHi _ => ⟨.hostWr, [(0x00#8, 0x00#8), (0xFF#8, 0x17#8)]⟩
  | .rdCrcChkLo => ⟨.hostRd, [(0x00#8, 0x00#8), (0xFF#8, 0x18#8)]⟩
  | .wrCrcChkLo _ => ⟨.hostWr, [(0x00#8, 0x00#8), (0xFF#8, 0x18#8)]⟩
  | .rdCrcChkHi => ⟨.hostRd, [(0x00#8, 0x00#8), (0xFF#8, 0x19#8)]⟩
  | .wrCrcChkHi _ => ⟨.hostWr, [(0x00#8, 0x00#8), (0xFF#8, 0x19#8)]⟩
  | .rdTckData => ⟨.hostRd, [(0x00#8, 0x00#8), (0xFF#8, 0x1A#8)]⟩
  | .wrTckData _ => ⟨.hostWr, [(0x00#8, 0x00#8), (0xFF#8, 0x1A#8)]⟩
  | .rdTckRes => ⟨.hostRd, [(0x00#8, 0x00#8), (0xFF#8, 0x1B#8)]⟩
  | .wrTckRes _ => ⟨.hostWr, [(0x00#8, 0x00#8), (0xFF#8, 0x1B#8)]⟩
  | .rdRxcrcLo => ⟨.hostRd, [(0x00#8, 0x00#8), (0xFF#8, 0x1C#8)]⟩
  | .wrRxcrcLo _ => ⟨.hostWr, [(0x00#8, 0x00#8), (0xFF#8, 0x1C#8)]⟩
  | .rdRxcrcHi => ⟨.hostRd, [(0x00#8, 0x00#8), (0xFF#8, 0x1D#8)]⟩
  | .wrRxcrcHi _ => ⟨.hostWr, [(0x00#8, 0x00#8), (0xFF#8, 0x1D#8)]⟩
  | .rdCalccrcLo => ⟨.hostRd, [(0x00#8, 0x00#8), (0xFF#8, 0x1E#8)]⟩
  | .wrCalccrcLo _ => ⟨.hostWr, [(0x00#8, 0x00#8), (0xFF#8, 0x1E#8)]⟩
  | .rdCalccrcHi => ⟨.hostRd, [(0x00#8, 0x00#8), (0xFF#8, 0x1F#8)]⟩
  | .wrCalccrcHi _ => ⟨.hostWr, [(0x00#8, 0x00#8), (0xFF#8, 0x1F#8)]⟩
  | .rdHdr0 => ⟨.hostRd, [(0x00#8, 0x00#8), (0xFF#8, 0x20#8)]⟩
  | .wrHdr0 _ => ⟨.hostWr, [(0x00#8, 0x00#8), (0xFF#8, 0x20#8)]⟩
  | .rdHdr1 => ⟨.hostRd, [(0x00#8, 0x00#8), (0xFF#8, 0x21#8)]⟩
  | .wrHdr1 _ => ⟨.hostWr, [(0x00#8, 0x00#8), (0xFF#8, 0x21#8)]⟩
  | .rdHdr2 => ⟨.hostRd, [(0x00#8, 0x00#8), (0xFF#8, 0x22#8)]⟩
  | .wrHdr2 _ => ⟨.hostWr, [(0x00#8, 0x00#8), (0xFF#8, 0x22#8)]⟩
  | .rdHdr3 => ⟨.hostRd, [(0x00#8, 0x00#8), (0xFF#8, 0x23#8)]⟩
  | .wrHdr3 _ => ⟨.hostWr, [(0x00#8, 0x00#8), (0xFF#8, 0x23#8)]⟩
  | .rdHdr4 => ⟨.hostRd, [(0x00#8, 0x00#8), (0xFF#8, 0x24#8)]⟩
  | .wrHdr4 _ => ⟨.hostWr, [(0x00#8, 0x00#8), (0xFF#8, 0x24#8)]⟩
  | .rdHdr5 => ⟨.hostRd, [(0x00#8, 0x00#8), (0xFF#8, 0x25#8)]⟩
  | .wrHdr5 _ => ⟨.hostWr, [(0x00#8, 0x00#8), (0xFF#8, 0x25#8)]⟩
  | .rdReserved0B => ⟨.hostRd, [(0x00#8, 0x00#8), (0xFF#8, 0x0B#8)]⟩
  | .wrReserved0B _ => ⟨.hostWr, [(0x00#8, 0x00#8), (0xFF#8, 0x0B#8)]⟩
  | .rdReserved26 _ => ⟨.hostRd, [(0x00#8, 0x00#8), (0xFE#8, 0x26#8)]⟩
  | .wrReserved26 _ _ => ⟨.hostWr, [(0x00#8, 0x00#8), (0xFE#8, 0x26#8)]⟩
  | .rdReserved28 _ => ⟨.hostRd, [(0x00#8, 0x00#8), (0xF8#8, 0x28#8)]⟩
  | .wrReserved28 _ _ => ⟨.hostWr, [(0x00#8, 0x00#8), (0xF8#8, 0x28#8)]⟩
  | .rdReserved30 _ => ⟨.hostRd, [(0x00#8, 0x00#8), (0xF0#8, 0x30#8)]⟩
  | .wrReserved30 _ _ => ⟨.hostWr, [(0x00#8, 0x00#8), (0xF0#8, 0x30#8)]⟩
  | .rdReserved40 _ => ⟨.hostRd, [(0x00#8, 0x00#8), (0xC0#8, 0x40#8)]⟩
  | .wrReserved40 _ _ => ⟨.hostWr, [(0x00#8, 0x00#8), (0xC0#8, 0x40#8)]⟩
  | .rdReserved80 _ => ⟨.hostRd, [(0x00#8, 0x00#8), (0x80#8, 0x80#8)]⟩
  | .wrReserved80 _ _ => ⟨.hostWr, [(0x00#8, 0x00#8), (0x80#8, 0x80#8)]⟩
  | .txFrame => ⟨.wireTx, [(0xFF#8, 0xEE#8)]⟩
  | .txAck => ⟨.wireTx, [(0xFF#8, 0x06#8)]⟩
  | .txNak => ⟨.wireTx, [(0xFF#8, 0x15#8)]⟩
  | .rxAck => ⟨.rxAwait, [(0xFF#8, 0x06#8)]⟩
  | .rxNak => ⟨.rxAwait, [(0xFF#8, 0x15#8)]⟩
  | .rxDiscard _ => ⟨.rxAwait, [(0x00#8, 0x00#8)]⟩
  | .rxFrame _ => ⟨.rxFrame, [(0x00#8, 0x00#8)]⟩
  | .svcIdent => ⟨.payloadSvc, [(0xFF#8, 0x20#8)]⟩
  | .svcTerminate => ⟨.payloadSvc, [(0xFF#8, 0x21#8)]⟩
  | .svcFullRead => ⟨.payloadSvc, [(0xFF#8, 0x30#8)]⟩
  | .svcFullWrite => ⟨.payloadSvc, [(0xFF#8, 0x40#8)]⟩
  | .svcPartialWrite => ⟨.payloadSvc, [(0xFF#8, 0x4F#8)]⟩
  | .svcLogon => ⟨.payloadSvc, [(0xFF#8, 0x50#8)]⟩
  | .svcSecurity => ⟨.payloadSvc, [(0xFF#8, 0x51#8)]⟩
  | .svcLogoff => ⟨.payloadSvc, [(0xFF#8, 0x52#8)]⟩
  | .svcNegotiate => ⟨.payloadSvc, [(0xFF#8, 0x61#8)]⟩

/-- The encoder's word fits the instruction's row. -/
def Statement (i : Instr) : Prop :=
  (encode i).fmt = (row i).fmt ∧ (encode i).bytes.length = (row i).bits.length ∧
    ((encode i).bytes.zip (row i).bits).map (fun p => p.1 &&& p.2.1) = (row i).bits.map Prod.snd

theorem cmdNop : Statement .cmdNop := ⟨rfl, rfl, rfl⟩
theorem cmdExchange : Statement .cmdExchange := ⟨rfl, rfl, rfl⟩
theorem cmdSessionInit : Statement .cmdSessionInit := ⟨rfl, rfl, rfl⟩
theorem cmdClrFlags : Statement .cmdClrFlags := ⟨rfl, rfl, rfl⟩
theorem cmdCrcInit : Statement .cmdCrcInit := ⟨rfl, rfl, rfl⟩
theorem cmdTckInit : Statement .cmdTckInit := ⟨rfl, rfl, rfl⟩
theorem cmdReserved06 (low : BitVec 1) : Statement (.cmdReserved06 low) := ⟨rfl, rfl, by revert low; decide⟩
theorem cmdReserved08 (low : BitVec 3) : Statement (.cmdReserved08 low) := ⟨rfl, rfl, by revert low; decide⟩
theorem cmdReserved10 (low : BitVec 4) : Statement (.cmdReserved10 low) := ⟨rfl, rfl, by revert low; decide⟩
theorem cmdReserved20 (low : BitVec 5) : Statement (.cmdReserved20 low) := ⟨rfl, rfl, by revert low; decide⟩
theorem cmdReserved40 (low : BitVec 6) : Statement (.cmdReserved40 low) := ⟨rfl, rfl, by revert low; decide⟩
theorem cmdReserved80 (low : BitVec 7) : Statement (.cmdReserved80 low) := ⟨rfl, rfl, by revert low; decide⟩
theorem rdCmd : Statement .rdCmd := ⟨rfl, rfl, rfl⟩
theorem rdStat : Statement .rdStat := ⟨rfl, rfl, rfl⟩
theorem wrStat (d : Byte) : Statement (.wrStat d) := ⟨rfl, rfl, congrArg (· :: _) BitVec.and_zero⟩
theorem rdErrCode : Statement .rdErrCode := ⟨rfl, rfl, rfl⟩
theorem wrErrCode (d : Byte) : Statement (.wrErrCode d) := ⟨rfl, rfl, congrArg (· :: _) BitVec.and_zero⟩
theorem rdCfg : Statement .rdCfg := ⟨rfl, rfl, rfl⟩
theorem wrCfg (d : Byte) : Statement (.wrCfg d) := ⟨rfl, rfl, congrArg (· :: _) BitVec.and_zero⟩
theorem rdSeq : Statement .rdSeq := ⟨rfl, rfl, rfl⟩
theorem wrSeq (d : Byte) : Statement (.wrSeq d) := ⟨rfl, rfl, congrArg (· :: _) BitVec.and_zero⟩
theorem rdSvc : Statement .rdSvc := ⟨rfl, rfl, rfl⟩
theorem wrSvc (d : Byte) : Statement (.wrSvc d) := ⟨rfl, rfl, congrArg (· :: _) BitVec.and_zero⟩
theorem rdTxPlenLo : Statement .rdTxPlenLo := ⟨rfl, rfl, rfl⟩
theorem wrTxPlenLo (d : Byte) : Statement (.wrTxPlenLo d) := ⟨rfl, rfl, congrArg (· :: _) BitVec.and_zero⟩
theorem rdTxPlenHi : Statement .rdTxPlenHi := ⟨rfl, rfl, rfl⟩
theorem wrTxPlenHi (d : Byte) : Statement (.wrTxPlenHi d) := ⟨rfl, rfl, congrArg (· :: _) BitVec.and_zero⟩
theorem rdTxPtrLo : Statement .rdTxPtrLo := ⟨rfl, rfl, rfl⟩
theorem wrTxPtrLo (d : Byte) : Statement (.wrTxPtrLo d) := ⟨rfl, rfl, congrArg (· :: _) BitVec.and_zero⟩
theorem rdTxPtrHi : Statement .rdTxPtrHi := ⟨rfl, rfl, rfl⟩
theorem wrTxPtrHi (d : Byte) : Statement (.wrTxPtrHi d) := ⟨rfl, rfl, congrArg (· :: _) BitVec.and_zero⟩
theorem rdTxData : Statement .rdTxData := ⟨rfl, rfl, rfl⟩
theorem wrTxData (d : Byte) : Statement (.wrTxData d) := ⟨rfl, rfl, congrArg (· :: _) BitVec.and_zero⟩
theorem rdRxLenLo : Statement .rdRxLenLo := ⟨rfl, rfl, rfl⟩
theorem wrRxLenLo (d : Byte) : Statement (.wrRxLenLo d) := ⟨rfl, rfl, congrArg (· :: _) BitVec.and_zero⟩
theorem rdRxLenHi : Statement .rdRxLenHi := ⟨rfl, rfl, rfl⟩
theorem wrRxLenHi (d : Byte) : Statement (.wrRxLenHi d) := ⟨rfl, rfl, congrArg (· :: _) BitVec.and_zero⟩
theorem rdRxPtrLo : Statement .rdRxPtrLo := ⟨rfl, rfl, rfl⟩
theorem wrRxPtrLo (d : Byte) : Statement (.wrRxPtrLo d) := ⟨rfl, rfl, congrArg (· :: _) BitVec.and_zero⟩
theorem rdRxPtrHi : Statement .rdRxPtrHi := ⟨rfl, rfl, rfl⟩
theorem wrRxPtrHi (d : Byte) : Statement (.wrRxPtrHi d) := ⟨rfl, rfl, congrArg (· :: _) BitVec.and_zero⟩
theorem rdRxData : Statement .rdRxData := ⟨rfl, rfl, rfl⟩
theorem wrRxData (d : Byte) : Statement (.wrRxData d) := ⟨rfl, rfl, congrArg (· :: _) BitVec.and_zero⟩
theorem rdStatus : Statement .rdStatus := ⟨rfl, rfl, rfl⟩
theorem wrStatus (d : Byte) : Statement (.wrStatus d) := ⟨rfl, rfl, congrArg (· :: _) BitVec.and_zero⟩
theorem rdFragCnt : Statement .rdFragCnt := ⟨rfl, rfl, rfl⟩
theorem wrFragCnt (d : Byte) : Statement (.wrFragCnt d) := ⟨rfl, rfl, congrArg (· :: _) BitVec.and_zero⟩
theorem rdNakCnt : Statement .rdNakCnt := ⟨rfl, rfl, rfl⟩
theorem wrNakCnt (d : Byte) : Statement (.wrNakCnt d) := ⟨rfl, rfl, congrArg (· :: _) BitVec.and_zero⟩
theorem rdFlags2 : Statement .rdFlags2 := ⟨rfl, rfl, rfl⟩
theorem wrFlags2 (d : Byte) : Statement (.wrFlags2 d) := ⟨rfl, rfl, congrArg (· :: _) BitVec.and_zero⟩
theorem rdCrcData : Statement .rdCrcData := ⟨rfl, rfl, rfl⟩
theorem wrCrcData (d : Byte) : Statement (.wrCrcData d) := ⟨rfl, rfl, congrArg (· :: _) BitVec.and_zero⟩
theorem rdCrcResLo : Statement .rdCrcResLo := ⟨rfl, rfl, rfl⟩
theorem wrCrcResLo (d : Byte) : Statement (.wrCrcResLo d) := ⟨rfl, rfl, congrArg (· :: _) BitVec.and_zero⟩
theorem rdCrcResHi : Statement .rdCrcResHi := ⟨rfl, rfl, rfl⟩
theorem wrCrcResHi (d : Byte) : Statement (.wrCrcResHi d) := ⟨rfl, rfl, congrArg (· :: _) BitVec.and_zero⟩
theorem rdCrcChkLo : Statement .rdCrcChkLo := ⟨rfl, rfl, rfl⟩
theorem wrCrcChkLo (d : Byte) : Statement (.wrCrcChkLo d) := ⟨rfl, rfl, congrArg (· :: _) BitVec.and_zero⟩
theorem rdCrcChkHi : Statement .rdCrcChkHi := ⟨rfl, rfl, rfl⟩
theorem wrCrcChkHi (d : Byte) : Statement (.wrCrcChkHi d) := ⟨rfl, rfl, congrArg (· :: _) BitVec.and_zero⟩
theorem rdTckData : Statement .rdTckData := ⟨rfl, rfl, rfl⟩
theorem wrTckData (d : Byte) : Statement (.wrTckData d) := ⟨rfl, rfl, congrArg (· :: _) BitVec.and_zero⟩
theorem rdTckRes : Statement .rdTckRes := ⟨rfl, rfl, rfl⟩
theorem wrTckRes (d : Byte) : Statement (.wrTckRes d) := ⟨rfl, rfl, congrArg (· :: _) BitVec.and_zero⟩
theorem rdRxcrcLo : Statement .rdRxcrcLo := ⟨rfl, rfl, rfl⟩
theorem wrRxcrcLo (d : Byte) : Statement (.wrRxcrcLo d) := ⟨rfl, rfl, congrArg (· :: _) BitVec.and_zero⟩
theorem rdRxcrcHi : Statement .rdRxcrcHi := ⟨rfl, rfl, rfl⟩
theorem wrRxcrcHi (d : Byte) : Statement (.wrRxcrcHi d) := ⟨rfl, rfl, congrArg (· :: _) BitVec.and_zero⟩
theorem rdCalccrcLo : Statement .rdCalccrcLo := ⟨rfl, rfl, rfl⟩
theorem wrCalccrcLo (d : Byte) : Statement (.wrCalccrcLo d) := ⟨rfl, rfl, congrArg (· :: _) BitVec.and_zero⟩
theorem rdCalccrcHi : Statement .rdCalccrcHi := ⟨rfl, rfl, rfl⟩
theorem wrCalccrcHi (d : Byte) : Statement (.wrCalccrcHi d) := ⟨rfl, rfl, congrArg (· :: _) BitVec.and_zero⟩
theorem rdHdr0 : Statement .rdHdr0 := ⟨rfl, rfl, rfl⟩
theorem wrHdr0 (d : Byte) : Statement (.wrHdr0 d) := ⟨rfl, rfl, congrArg (· :: _) BitVec.and_zero⟩
theorem rdHdr1 : Statement .rdHdr1 := ⟨rfl, rfl, rfl⟩
theorem wrHdr1 (d : Byte) : Statement (.wrHdr1 d) := ⟨rfl, rfl, congrArg (· :: _) BitVec.and_zero⟩
theorem rdHdr2 : Statement .rdHdr2 := ⟨rfl, rfl, rfl⟩
theorem wrHdr2 (d : Byte) : Statement (.wrHdr2 d) := ⟨rfl, rfl, congrArg (· :: _) BitVec.and_zero⟩
theorem rdHdr3 : Statement .rdHdr3 := ⟨rfl, rfl, rfl⟩
theorem wrHdr3 (d : Byte) : Statement (.wrHdr3 d) := ⟨rfl, rfl, congrArg (· :: _) BitVec.and_zero⟩
theorem rdHdr4 : Statement .rdHdr4 := ⟨rfl, rfl, rfl⟩
theorem wrHdr4 (d : Byte) : Statement (.wrHdr4 d) := ⟨rfl, rfl, congrArg (· :: _) BitVec.and_zero⟩
theorem rdHdr5 : Statement .rdHdr5 := ⟨rfl, rfl, rfl⟩
theorem wrHdr5 (d : Byte) : Statement (.wrHdr5 d) := ⟨rfl, rfl, congrArg (· :: _) BitVec.and_zero⟩
theorem rdReserved0B : Statement .rdReserved0B := ⟨rfl, rfl, rfl⟩
theorem wrReserved0B (d : Byte) : Statement (.wrReserved0B d) := ⟨rfl, rfl, congrArg (· :: _) BitVec.and_zero⟩
theorem rdReserved26 (low : BitVec 1) : Statement (.rdReserved26 low) := ⟨rfl, rfl, by revert low; decide⟩
theorem wrReserved26 (low : BitVec 1) (d : Byte) : Statement (.wrReserved26 low d) := ⟨rfl, rfl, congrArg₂ List.cons (BitVec.and_zero) (congrArg₂ List.cons (by revert low; decide) rfl)⟩
theorem rdReserved28 (low : BitVec 3) : Statement (.rdReserved28 low) := ⟨rfl, rfl, by revert low; decide⟩
theorem wrReserved28 (low : BitVec 3) (d : Byte) : Statement (.wrReserved28 low d) := ⟨rfl, rfl, congrArg₂ List.cons (BitVec.and_zero) (congrArg₂ List.cons (by revert low; decide) rfl)⟩
theorem rdReserved30 (low : BitVec 4) : Statement (.rdReserved30 low) := ⟨rfl, rfl, by revert low; decide⟩
theorem wrReserved30 (low : BitVec 4) (d : Byte) : Statement (.wrReserved30 low d) := ⟨rfl, rfl, congrArg₂ List.cons (BitVec.and_zero) (congrArg₂ List.cons (by revert low; decide) rfl)⟩
theorem rdReserved40 (low : BitVec 6) : Statement (.rdReserved40 low) := ⟨rfl, rfl, by revert low; decide⟩
theorem wrReserved40 (low : BitVec 6) (d : Byte) : Statement (.wrReserved40 low d) := ⟨rfl, rfl, congrArg₂ List.cons (BitVec.and_zero) (congrArg₂ List.cons (by revert low; decide) rfl)⟩
theorem rdReserved80 (low : BitVec 7) : Statement (.rdReserved80 low) := ⟨rfl, rfl, by revert low; decide⟩
theorem wrReserved80 (low : BitVec 7) (d : Byte) : Statement (.wrReserved80 low d) := ⟨rfl, rfl, congrArg₂ List.cons (BitVec.and_zero) (congrArg₂ List.cons (by revert low; decide) rfl)⟩
theorem txFrame : Statement .txFrame := ⟨rfl, rfl, rfl⟩
theorem txAck : Statement .txAck := ⟨rfl, rfl, rfl⟩
theorem txNak : Statement .txNak := ⟨rfl, rfl, rfl⟩
theorem rxAck : Statement .rxAck := ⟨rfl, rfl, rfl⟩
theorem rxNak : Statement .rxNak := ⟨rfl, rfl, rfl⟩
theorem rxDiscard (b : Byte) : Statement (.rxDiscard b) := ⟨rfl, rfl, congrArg (· :: []) BitVec.and_zero⟩
theorem rxFrame (b : Byte) : Statement (.rxFrame b) := ⟨rfl, rfl, congrArg (· :: []) BitVec.and_zero⟩
theorem svcIdent : Statement .svcIdent := ⟨rfl, rfl, rfl⟩
theorem svcTerminate : Statement .svcTerminate := ⟨rfl, rfl, rfl⟩
theorem svcFullRead : Statement .svcFullRead := ⟨rfl, rfl, rfl⟩
theorem svcFullWrite : Statement .svcFullWrite := ⟨rfl, rfl, rfl⟩
theorem svcPartialWrite : Statement .svcPartialWrite := ⟨rfl, rfl, rfl⟩
theorem svcLogon : Statement .svcLogon := ⟨rfl, rfl, rfl⟩
theorem svcSecurity : Statement .svcSecurity := ⟨rfl, rfl, rfl⟩
theorem svcLogoff : Statement .svcLogoff := ⟨rfl, rfl, rfl⟩
theorem svcNegotiate : Statement .svcNegotiate := ⟨rfl, rfl, rfl⟩

end Sys2Proof.Laws.FitsRow
end

