-- ==== Sys2Proof/Laws/Step.lean ====
section
/-! SUPPORT. Everything one step can do: the inversion of `step`, one case for each agent and each sequencer state. Every
invariant is proved by cases on it. -/

namespace Sys2Proof.Machine

/-- What a step of the engine can do, from a state whose turn has been taken (42_link_sequencer R160). -/
inductive EngineEffect (s : State) : Result → Prop where
  | idle : s.st = .idle → EngineEffect s (.next s)
  /-- The transport has not answered (log 3). -/
  | waits : s.st ≠ .idle → s.st ≠ .validate → EngineEffect s (.next s)
  | sendFault (f : Fault) : s.st = .send → s.txFrameByte s.txIdx.toNat = .error f → EngineEffect s (.fault f)
  /-- TxIoErr in a transmit state (R182). -/
  | txIoErr (q : List TxAnswer) : s.txValid = true → s.env.txQ = .ioErr :: q →
      EngineEffect s (.next ((s.txFailed q).raiseError .ioError))
  | sentFrameByte (b : Byte) (q : List TxAnswer) : s.st = .send → s.txFrameByte s.txIdx.toNat = .ok b →
      s.env.txQ = .ok :: q → EngineEffect s (.next (s.txSent b q).sentFrameByte)
  | sentNak (q : List TxAnswer) : s.st = .sendNak → s.env.txQ = .ok :: q →
      EngineEffect s (.next (s.txSent Config.nak q).sentNak)
  | nextFragment (q : List TxAnswer) : s.st = .sendAck → s.ackFinal = false → s.env.txQ = .ok :: q →
      EngineEffect s (.next (s.txSent Config.ack q).beginFragment)
  | completed (q : List TxAnswer) : s.st = .sendAck → s.ackFinal = true → s.env.txQ = .ok :: q →
      EngineEffect s (.next (s.txSent Config.ack q).complete)
  /-- Timeout in a receive state (R170, R181). -/
  | timedOut (q : List RxAnswer) : s.rxReq = true → s.env.rxQ = .timeout :: q →
      EngineEffect s (.next ((s.tookRx q).raiseError .timeout))
  /-- RxIoErr in a receive state (R170, R181). -/
  | rxIoErr (q : List RxAnswer) : s.rxReq = true → s.env.rxQ = .ioErr :: q →
      EngineEffect s (.next ((s.tookRx q).raiseError .ioError))
  | acked (q : List RxAnswer) : s.st = .awaitAck → s.env.rxQ = .byte Config.ack :: q →
      EngineEffect s (.next (s.tookRx q).beginFragment)
  | naked (q : List RxAnswer) : s.st = .awaitAck → s.env.rxQ = .byte Config.nak :: q →
      EngineEffect s (.next ((s.tookRx q).raiseError .noAck))
  | discarded (b : Byte) (q : List RxAnswer) : s.st = .awaitAck → s.env.rxQ = .byte b :: q → b ≠ Config.ack →
      b ≠ Config.nak → EngineEffect s (.next (s.tookRx q).discardByte)
  | headerByte (b : Byte) (q : List RxAnswer) : s.st = .readHeader → s.env.rxQ = .byte b :: q →
      EngineEffect s (.next ((s.tookRx q).headerByte b))
  | bodyByte (b : Byte) (q : List RxAnswer) : s.st = .readBody → s.env.rxQ = .byte b :: q →
      EngineEffect s ((s.tookRx q).bodyByte b)
  | crcByte (b : Byte) (q : List RxAnswer) : s.st = .readCrc → s.env.rxQ = .byte b :: q →
      EngineEffect s (.next ((s.tookRx q).crcByte b))
  | validated : s.st = .validate → EngineEffect s (.next s.validateFrag)

/-- What the fetch answers, run. -/
def Fetched.result : Fetched → Result
  | .run i s => exec i s
  | .moved s => .next s

theorem step_eq (s : State) : step s = s.fetch.result := by
  unfold step Fetched.result
  cases s.fetch <;> rfl

/-- A receive step (20_memory R74). -/
theorem State.fetchRx_cases (s : State) (h : s.rxReq = true) : EngineEffect s s.fetchRx.result := by
  have hst : s.st = .awaitAck ∨ s.st = .readHeader ∨ s.st = .readBody ∨ s.st = .readCrc := by
    cases hs : s.st <;> simp_all [State.rxReq]
  unfold State.fetchRx
  split
  · exact .waits (by rcases hst with h | h | h | h <;> simp [h]) (by rcases hst with h | h | h | h <;> simp [h])
  · next b q hq =>
    rcases hst with hs | hs | hs | hs
    · simp only [hs, SeqState.rxFormat, decode, decodeAwait]
      by_cases ha : b = Config.ack
      · subst ha
        simpa [Fetched.result, exec, execRxAck, hs] using EngineEffect.acked q hs hq
      · by_cases hn : b = Config.nak
        · subst hn
          simpa [Fetched.result, exec, execRxNak, hs, ha] using EngineEffect.naked q hs hq
        · simpa [Fetched.result, exec, execRxDiscard, hs, ha, hn] using EngineEffect.discarded b q hs hq ha hn
    · simpa [hs, SeqState.rxFormat, decode, Fetched.result, exec, execRxFrame] using EngineEffect.headerByte b q hs hq
    · simpa [hs, SeqState.rxFormat, decode, Fetched.result, exec, execRxFrame] using EngineEffect.bodyByte b q hs hq
    · simpa [hs, SeqState.rxFormat, decode, Fetched.result, exec, execRxFrame] using EngineEffect.crcByte b q hs hq
  · exact .timedOut _ h ‹_›
  · exact .rxIoErr _ h ‹_›

/-- A step of the engine (42_link_sequencer R160). -/
theorem State.fetchEngine_cases (s : State) : EngineEffect s s.fetchEngine.result := by
  unfold State.fetchEngine
  cases hs : s.st with
  | idle => exact .idle hs
  | send =>
    simp only [Fetched.result, exec, execTxFrame, hs]
    split
    · next b hb =>
      obtain ⟨-, e⟩ | ⟨q, hq, e⟩ | ⟨q, hq, e⟩ := s.transmit_cases b State.sentFrameByte <;> rw [e]
      · exact .waits (by simp [hs]) (by simp [hs])
      · exact .txIoErr q (by simp [State.txValid, hs]) hq
      · exact .sentFrameByte b q hs hb hq
    · next f hf => exact .sendFault f hs hf
  | sendNak =>
    simp only [Fetched.result, exec, execTxNak, hs]
    obtain ⟨-, e⟩ | ⟨q, hq, e⟩ | ⟨q, hq, e⟩ := s.transmit_cases Config.nak State.sentNak <;> rw [e]
    · exact .waits (by simp [hs]) (by simp [hs])
    · exact .txIoErr q (by simp [State.txValid, hs]) hq
    · exact .sentNak q hs hq
  | sendAck =>
    simp only [Fetched.result, exec, execTxAck, hs]
    obtain ⟨-, e⟩ | ⟨q, hq, e⟩ | ⟨q, hq, e⟩ := s.transmit_cases Config.ack State.sentAck <;> rw [e]
    · exact .waits (by simp [hs]) (by simp [hs])
    · exact .txIoErr q (by simp [State.txValid, hs]) hq
    · cases hf : s.ackFinal
      · simpa [State.sentAck, hf] using EngineEffect.nextFragment q hs hf hq
      · simpa [State.sentAck, hf] using EngineEffect.completed q hs hf hq
  | validate => exact .validated hs
  | awaitAck => exact s.fetchRx_cases (by simp [State.rxReq, hs])
  | readHeader => exact s.fetchRx_cases (by simp [State.rxReq, hs])
  | readBody => exact s.fetchRx_cases (by simp [State.rxReq, hs])
  | readCrc => exact s.fetchRx_cases (by simp [State.rxReq, hs])

/-- Everything one step can do: no agent's turn, a reset, the host's access, or a step of the engine. -/
theorem step_cases (s : State) :
    (s.env.turns = [] ∧ step s = .next s) ∨
    (∃ ts, s.env.turns = .reset :: ts ∧ step s = .next (s.tookTurn ts).resetBlock) ∨
    (∃ ts, s.env.turns = .host :: ts ∧ s.env.hostQ = [] ∧ step s = .next (s.tookTurn ts)) ∨
    (∃ ts a q i t, s.env.turns = .host :: ts ∧ s.env.hostQ = a :: q ∧ a.decoded = .ok i ∧
      step s = exec i ((s.tookTurn ts).tookAccess q) ∧ step s = .next t ∧
      HostEffect ((s.tookTurn ts).tookAccess q) t) ∨
    (∃ ts, s.env.turns = .engine :: ts ∧ EngineEffect (s.tookTurn ts) (step s)) := by
  rw [step_eq]
  unfold State.fetch
  split
  · exact .inl ⟨‹_›, rfl⟩
  · next ts ht =>
    right; right
    cases hq : s.env.hostQ with
    | nil => exact .inl ⟨ts, ht, rfl, by simp [State.fetchHost, hq, Fetched.result]⟩
    | cons a q =>
      obtain ⟨i, hi, hw⟩ := a.decoded_ok
      obtain ⟨t, e, he⟩ := exec_host i ((s.tookTurn ts).tookAccess q) hw
      have e' : (s.tookTurn ts).fetchHost.result = exec i ((s.tookTurn ts).tookAccess q) := by
        simp [State.fetchHost, hq, hi, Fetched.result]
      exact .inr (.inl ⟨ts, a, q, i, t, ht, rfl, hi, e', e'.trans e, he⟩)
  · next ts ht => exact .inr (.inr (.inr (.inr ⟨ts, ht, (s.tookTurn ts).fetchEngine_cases⟩)))
  · next ts ht => exact .inr (.inl ⟨ts, ht, rfl⟩)

/-- A host access placed in front is what the next step runs. -/
theorem step_placeAccess (s : State) (a : HostAccess) (i : Instr) (h : a.decoded = .ok i) :
    step (s.placeAccess a) = exec i s := by
  simp [step, State.fetch, State.placeAccess, State.fetchHost, h, State.tookTurn, State.tookAccess]

end Sys2Proof.Machine
end

