-- ==== Sys2Proof/Tests/Slice0.lean ====
section
/-! SUPPORT. The model's own tests: the well-formedness smoke, a word of each constructor, small steps with results taken from
the spec (95_test_vectors), and for each statement with hypotheses a state and operands that meet them. -/

namespace Sys2Proof.Tests

open Sys2Proof.Machine

/-- After reset, with parameters of 95_test_vectors: N_DISCARD 3, NAK_ROUNDS_MAX 1, strict lengths, REASM_CAP 65535. -/
def idle : State := { State.reset with par := ⟨3, some 1, true, 65535#16⟩ }

/-- An exchange in the sequencer state `st`. -/
def busyIn (st : SeqState) : State := { idle with st := st }

/-- A state whose next turns, host accesses and transport answers are given. -/
def withEnv (s : State) (turns : List Turn) (hostQ : List HostAccess) (txQ : List TxAnswer) (rxQ : List RxAnswer) : State :=
  { s with env := ⟨turns, hostQ, txQ, rxQ, []⟩ }

def after : Result → Option State
  | .next t => some t
  | _ => none

/-- A field of the state after one instruction. -/
def obs {α : Type} (i : Instr) (s : State) (f : State → α) : Option α := (after (exec i s)).map f

/-- A field of the state after one step. -/
def obsStep {α : Type} (s : State) (f : State → α) : Option α := (after (step s)).map f

/-- The decoding of a 16-bit access word. -/
def wr (w : Nat) : Except DecodeError Instr := decode ⟨.hostWr, [byteOfBits w 0, byteOfBits w 1]⟩

def rd (w : Nat) : Except DecodeError Instr := decode ⟨.hostRd, [byteOfBits w 0, byteOfBits w 1]⟩

def svc (w : Nat) : Except DecodeError Instr := decode ⟨.payloadSvc, [byteOfBits w 0]⟩

/-! ### Well-formedness: the one check refuses its two ill-formed terms (30_encoding R91) -/

theorem test_wf_discard_ack_refused : (Instr.rxDiscard 0x06#8).wf = false := by decide
theorem test_wf_discard_nak_refused : (Instr.rxDiscard 0x15#8).wf = false := by decide
theorem test_wf_discard_others : (Instr.rxDiscard 0xEE#8).wf = true ∧ (Instr.rxDiscard 0x14#8).wf = true := by decide

/-! ### Decoding: a word of every constructor, from 30_encoding R96, R97, R92, R90 and the map 20_memory R67 -/

theorem test_decode_commands :
    wr 0x0000 = .ok .cmdNop ∧ wr 0x0001 = .ok .cmdExchange ∧ wr 0x0002 = .ok .cmdSessionInit ∧
    wr 0x0003 = .ok .cmdClrFlags ∧ wr 0x0004 = .ok .cmdCrcInit ∧ wr 0x0005 = .ok .cmdTckInit := by decide

theorem test_decode_reserved_commands :
    wr 0x0006 = .ok (.cmdReserved06 0#1) ∧ wr 0x0007 = .ok (.cmdReserved06 1#1) ∧
    wr 0x0008 = .ok (.cmdReserved08 0#3) ∧ wr 0x000F = .ok (.cmdReserved08 7#3) ∧
    wr 0x0012 = .ok (.cmdReserved10 2#4) ∧ wr 0x003F = .ok (.cmdReserved20 31#5) ∧
    wr 0x0040 = .ok (.cmdReserved40 0#6) ∧ wr 0x00FF = .ok (.cmdReserved80 127#7) := by decide

theorem test_decode_reads_low :
    rd 0x0000 = .ok .rdCmd ∧ rd 0x0100 = .ok .rdStat ∧ rd 0x0200 = .ok .rdErrCode ∧ rd 0x0300 = .ok .rdCfg ∧
    rd 0x0400 = .ok .rdSeq ∧ rd 0x0500 = .ok .rdSvc ∧ rd 0x0600 = .ok .rdTxPlenLo ∧ rd 0x0700 = .ok .rdTxPlenHi ∧
    rd 0x0800 = .ok .rdTxPtrLo ∧ rd 0x0900 = .ok .rdTxPtrHi ∧ rd 0x0A00 = .ok .rdTxData ∧
    rd 0x0C00 = .ok .rdRxLenLo ∧ rd 0x0D00 = .ok .rdRxLenHi ∧ rd 0x0E00 = .ok .rdRxPtrLo ∧
    rd 0x0F00 = .ok .rdRxPtrHi ∧ rd 0x10AB = .ok .rdRxData := by decide

theorem test_decode_reads_high :
    rd 0x1100 = .ok .rdStatus ∧ rd 0x1200 = .ok .rdFragCnt ∧ rd 0x1300 = .ok .rdNakCnt ∧ rd 0x1400 = .ok .rdFlags2 ∧
    rd 0x1500 = .ok .rdCrcData ∧ rd 0x1600 = .ok .rdCrcResLo ∧ rd 0x1700 = .ok .rdCrcResHi ∧
    rd 0x1800 = .ok .rdCrcChkLo ∧ rd 0x1900 = .ok .rdCrcChkHi ∧ rd 0x1A00 = .ok .rdTckData ∧
    rd 0x1B00 = .ok .rdTckRes ∧ rd 0x1C00 = .ok .rdRxcrcLo ∧ rd 0x1D00 = .ok .rdRxcrcHi ∧
    rd 0x1E00 = .ok .rdCalccrcLo ∧ rd 0x1F00 = .ok .rdCalccrcHi ∧ rd 0x2000 = .ok .rdHdr0 ∧ rd 0x2100 = .ok .rdHdr1 ∧
    rd 0x2200 = .ok .rdHdr2 ∧ rd 0x2300 = .ok .rdHdr3 ∧ rd 0x2400 = .ok .rdHdr4 ∧ rd 0x2500 = .ok .rdHdr5 := by decide

theorem test_decode_writes_low :
    wr 0x01D0 = .ok (.wrStat 0xD0#8) ∧ wr 0x02D1 = .ok (.wrErrCode 0xD1#8) ∧ wr 0x03D2 = .ok (.wrCfg 0xD2#8) ∧
    wr 0x04D3 = .ok (.wrSeq 0xD3#8) ∧ wr 0x05D4 = .ok (.wrSvc 0xD4#8) ∧ wr 0x06D5 = .ok (.wrTxPlenLo 0xD5#8) ∧
    wr 0x07D6 = .ok (.wrTxPlenHi 0xD6#8) ∧ wr 0x08D7 = .ok (.wrTxPtrLo 0xD7#8) ∧ wr 0x09D8 = .ok (.wrTxPtrHi 0xD8#8) ∧
    wr 0x0AD9 = .ok (.wrTxData 0xD9#8) ∧ wr 0x0CDA = .ok (.wrRxLenLo 0xDA#8) ∧ wr 0x0DDB = .ok (.wrRxLenHi 0xDB#8) ∧
    wr 0x0EDC = .ok (.wrRxPtrLo 0xDC#8) ∧ wr 0x0FDD = .ok (.wrRxPtrHi 0xDD#8) ∧ wr 0x10DE = .ok (.wrRxData 0xDE#8) := by
  decide

theorem test_decode_writes_high :
    wr 0x11D0 = .ok (.wrStatus 0xD0#8) ∧ wr 0x12D1 = .ok (.wrFragCnt 0xD1#8) ∧ wr 0x13D2 = .ok (.wrNakCnt 0xD2#8) ∧
    wr 0x14D3 = .ok (.wrFlags2 0xD3#8) ∧ wr 0x15D4 = .ok (.wrCrcData 0xD4#8) ∧ wr 0x16D5 = .ok (.wrCrcResLo 0xD5#8) ∧
    wr 0x17D6 = .ok (.wrCrcResHi 0xD6#8) ∧ wr 0x18D7 = .ok (.wrCrcChkLo 0xD7#8) ∧ wr 0x19D8 = .ok (.wrCrcChkHi 0xD8#8) ∧
    wr 0x1AD9 = .ok (.wrTckData 0xD9#8) ∧ wr 0x1BDA = .ok (.wrTckRes 0xDA#8) ∧ wr 0x1CDB = .ok (.wrRxcrcLo 0xDB#8) ∧
    wr 0x1DDC = .ok (.wrRxcrcHi 0xDC#8) ∧ wr 0x1EDD = .ok (.wrCalccrcLo 0xDD#8) ∧ wr 0x1FDE = .ok (.wrCalccrcHi 0xDE#8) ∧
    wr 0x20DF = .ok (.wrHdr0 0xDF#8) ∧ wr 0x21E0 = .ok (.wrHdr1 0xE0#8) ∧ wr 0x22E1 = .ok (.wrHdr2 0xE1#8) ∧
    wr 0x23E2 = .ok (.wrHdr3 0xE2#8) ∧ wr 0x24E3 = .ok (.wrHdr4 0xE3#8) ∧ wr 0x25E4 = .ok (.wrHdr5 0xE4#8) := by decide

theorem test_decode_reserved_addresses :
    rd 0x0B00 = .ok .rdReserved0B ∧ wr 0x0B5A = .ok (.wrReserved0B 0x5A#8) ∧
    rd 0x2700 = .ok (.rdReserved26 1#1) ∧ wr 0x265A = .ok (.wrReserved26 0#1 0x5A#8) ∧
    rd 0x2800 = .ok (.rdReserved28 0#3) ∧ wr 0x2F5A = .ok (.wrReserved28 7#3 0x5A#8) ∧
    rd 0x3F00 = .ok (.rdReserved30 15#4) ∧ wr 0x3012 = .ok (.wrReserved30 0#4 0x12#8) ∧
    rd 0x4100 = .ok (.rdReserved40 1#6) ∧ wr 0x7F5A = .ok (.wrReserved40 63#6 0x5A#8) ∧
    rd 0xFF00 = .ok (.rdReserved80 127#7) ∧ wr 0x805A = .ok (.wrReserved80 0#7 0x5A#8) := by decide

theorem test_decode_wire :
    decode ⟨.wireTx, [0xEE#8]⟩ = .ok .txFrame ∧ decode ⟨.wireTx, [0x06#8]⟩ = .ok .txAck ∧
    decode ⟨.wireTx, [0x15#8]⟩ = .ok .txNak ∧ decode ⟨.rxAwait, [0x06#8]⟩ = .ok .rxAck ∧
    decode ⟨.rxAwait, [0x15#8]⟩ = .ok .rxNak ∧ decode ⟨.rxAwait, [0xEE#8]⟩ = .ok (.rxDiscard 0xEE#8) ∧
    decode ⟨.rxFrame, [0x15#8]⟩ = .ok (.rxFrame 0x15#8) := by decide

theorem test_decode_services :
    svc 0x20 = .ok .svcIdent ∧ svc 0x21 = .ok .svcTerminate ∧ svc 0x30 = .ok .svcFullRead ∧
    svc 0x40 = .ok .svcFullWrite ∧ svc 0x4F = .ok .svcPartialWrite ∧ svc 0x50 = .ok .svcLogon ∧
    svc 0x51 = .ok .svcSecurity ∧ svc 0x52 = .ok .svcLogoff ∧ svc 0x61 = .ok .svcNegotiate := by decide

theorem test_decode_refuses_by_name :
    decode ⟨.wireTx, [0x00#8]⟩ = .error (.notATransmitSymbol 0x00#8) ∧
    decode ⟨.payloadSvc, [0x22#8]⟩ = .error (.noNamedService 0x22#8) ∧
    decode ⟨.hostWr, [0x00#8]⟩ = .error .wrongLength := by decide

/-! ### Checksums and frames (95_test_vectors, 40_checksums, 41_framer) -/

theorem test_crc16_check_string :
    crc16 [0x31#8, 0x32#8, 0x33#8, 0x34#8, 0x35#8, 0x36#8, 0x37#8, 0x38#8, 0x39#8] = 0x906E#16 := by decide +kernel

theorem test_crc16_of_one_byte : crc16 [0x41#8] = 0xA3F5#16 := by decide

/-- The Ident frame (H13): `EE 00 00 00 00 01 20 13 10`. -/
theorem test_ident_frame : encodeFrame 0x20#8 [] false 0x00#8 =
    some [0xEE#8, 0x00#8, 0x00#8, 0x00#8, 0x00#8, 0x01#8, 0x20#8, 0x13#8, 0x10#8] := by decide +kernel

theorem test_decode_ident_frame :
    decodeFrame [0xEE#8, 0x00#8, 0x00#8, 0x00#8, 0x00#8, 0x01#8, 0x20#8, 0x13#8, 0x10#8] =
      .ok ⟨0x20#8, [], false, 0x00#8⟩ := by decide +kernel

theorem test_decode_frame_swapped_crc :
    decodeFrame [0xEE#8, 0x00#8, 0x00#8, 0x00#8, 0x00#8, 0x01#8, 0x20#8, 0x10#8, 0x13#8] = .error .crcMismatch := by decide +kernel

/-! ### One step of the host (H1 to H14) -/

/-- H1: after reset FLAGS2 reads 0x01 and STAT 0x00. -/
theorem test_reset_reads :
    obs .rdFlags2 idle State.rdata = some 0x01#8 ∧ obs .rdStat idle State.rdata = some 0x00#8 := ⟨rfl, rfl⟩

/-- H2: a read of RX_DATA past RX_LEN gives 0x00 and sets RXUNF. -/
theorem test_rx_data_underrun :
    obs .rdRxData idle (fun t => (t.rdata, t.flags2)) = some (0x00#8, 0x09#8) := rfl

/-- H3: the last byte of TX_BUF is stored and the pointer advances. -/
theorem test_tx_data_last_byte :
    obs (.wrTxData 0xAA#8) { idle with txPtr := 0x1FF5#16 } (fun t => (t.txBuf, t.txPtr, t.txOvf)) =
      some ([(8181, 0xAA#8)], 0x1FF6#16, false) := rfl

/-- H4: past it nothing is stored and FLAGS2 is 0x05. -/
theorem test_tx_data_overflow :
    obs (.wrTxData 0xBB#8) { idle with txPtr := 0x1FF6#16 } (fun t => (t.txBuf, t.txPtr, t.flags2)) =
      some ([], 0x1FF6#16, 0x05#8) := rfl

/-- H5. -/
theorem test_clr_flags : obs .cmdClrFlags { idle with txOvf := true, ign := true } State.flags2 = some 0x01#8 := rfl

/-- H6. -/
theorem test_reserved_command_sets_ign : obs (.cmdReserved80 127#7) idle State.flags2 = some 0x03#8 := rfl

/-- H8. -/
theorem test_cfg_reads_back_one : obs (.wrCfg 0xFF#8) idle State.cfg = some 0x01#8 := rfl

/-- H10: a command while busy is ignored and sets IGN. -/
theorem test_session_init_while_busy :
    obs .cmdSessionInit { busyIn .send with ctrlBit := true } (fun t => (t.ctrlBit, t.ign)) = some (true, true) := rfl

/-- H12: CTRL_BIT is cleared and STATUS_VALID kept. -/
theorem test_session_init :
    obs .cmdSessionInit { idle with ctrlBit := true, statusValid := true } State.stat = some 0x10#8 := rfl

/-- P7: a payload of 8183 bytes is LENGTH_ERROR at once; irq rises with IRQ_EN. -/
theorem test_exchange_too_long :
    obs .cmdExchange { idle with txPlen := 8183#16, irqEn := true } (fun t => (t.errCode, t.stat)) =
      some (0x06#8, 0x84#8) := rfl

/-- P7's other side: 8182 bytes are accepted (STAT 0x01). -/
theorem test_exchange_accepted :
    obs .cmdExchange { idle with txPlen := 8182#16 } (fun t => (t.errCode, t.stat)) = some (0x00#8, 0x01#8) := rfl

/-- H10: CRC_RES of 0x41. -/
theorem test_crc_data :
    (obs (.wrCrcData 0x41#8) idle State.crcRes) = some 0xA3F5#16 ∧
    obs .cmdCrcInit { idle with crcAcc := 0x1234#16 } State.crcRes = some 0x0000#16 := by decide

/-- R116: the checksum of 1, 2, 3 is 250. -/
theorem test_tck :
    (obs (.wrTckData 0x03#8) { idle with tckSum := 0x03#8 } State.tckRes) = some 0xFA#8 ∧
    obs .cmdTckInit { idle with tckSum := 0x55#8 } State.tckRes = some 0x00#8 := by decide

/-- R62: each half of a 16-bit register is written alone. -/
theorem test_halves :
    obs (.wrTxPlenLo 0x34#8) { idle with txPlen := 0xABCD#16 } State.txPlen = some 0xAB34#16 ∧
    obs (.wrTxPlenHi 0x12#8) { idle with txPlen := 0xABCD#16 } State.txPlen = some 0x12CD#16 ∧
    obs (.wrRxPtrLo 0x34#8) { idle with rxPtr := 0xABCD#16 } State.rxPtr = some 0xAB34#16 ∧
    obs (.wrRxPtrHi 0x12#8) { idle with rxPtr := 0xABCD#16 } State.rxPtr = some 0x12CD#16 ∧
    obs (.wrCrcChkHi 0x12#8) { idle with crcChk := 0xABCD#16 } State.crcChk = some 0x12CD#16 := by decide

theorem test_halves_read :
    obs .rdRxLenHi { idle with rxLen := 0x1FF7#16 } State.rdata = some 0x1F#8 ∧
    obs .rdRxLenLo { idle with rxLen := 0x1FF7#16 } State.rdata = some 0xF7#8 ∧
    obs .rdHdr4 { idle with hdr := ⟨1#8, 2#8, 3#8, 4#8, 5#8, 6#8⟩ } State.rdata = some 0x05#8 := by decide

/-- H10: SVC stays as it is while busy. -/
theorem test_svc_write_while_busy :
    obs (.wrSvc 0x30#8) { busyIn .send with svc := 0x20#8 } (fun t => (t.svc, t.ign)) = some (0x20#8, true) ∧
    obs .svcLogon idle State.svc = some 0x50#8 := ⟨rfl, rfl⟩

/-! ### One step of the engine (S1 to S30) -/

/-- H13: the first byte of a frame is STP; after the last the engine awaits the acknowledgement. -/
theorem test_send_first_byte :
    obs .txFrame (withEnv { busyIn .send with svc := 0x20#8 } [] [] [.ok] []) (fun t => (t.env.line, t.st)) =
      some ([0xEE#8], .send) := rfl

theorem test_send_last_byte :
    obs .txFrame (withEnv { busyIn .send with svc := 0x20#8, txIdx := 8#14 } [] [] [.ok] [])
      (fun t => (t.env.line, t.st)) = some ([0x10#8], .awaitAck) := by decide +kernel

/-- H14: an unwritten payload byte stops the model. -/
theorem test_unwritten_payload :
    exec .txFrame { busyIn .send with txPlen := 1#16, txIdx := 7#14 } = .fault (.txByteUnwritten 0) := rfl

/-- S5. -/
theorem test_nak_received : obs .rxNak (busyIn .awaitAck) (fun t => (t.errCode, t.stat)) = some (0x25#8, 0x04#8) := rfl

/-- S7: the third byte discarded prompts a NAK; S9: with NAK_ROUNDS_MAX reached it ends the exchange. -/
theorem test_discard_budget :
    obs (.rxDiscard 0x43#8) { busyIn .awaitAck with discCnt := 2 } State.st = some .sendNak ∧
    obs (.rxDiscard 0x46#8) { busyIn .awaitAck with discCnt := 2, nakRounds := 1#8 } State.errCode = some 0x25#8 :=
  ⟨rfl, rfl⟩

/-- S12: the NAK is not sent. -/
theorem test_nak_fails :
    obs .txNak (withEnv (busyIn .sendNak) [] [] [.ioErr] []) (fun t => (t.errCode, t.nakCnt)) = some (0x31#8, 0#8) := rfl

/-- S8: the NAK is counted. -/
theorem test_nak_sent :
    obs .txNak (withEnv (busyIn .sendNak) [] [] [.ok] []) (fun t => (t.env.line, t.nakCnt, t.st)) =
      some ([0x15#8], 1#8, .awaitAck) := rfl

/-- S17: after one ACK a second is header byte 0. -/
theorem test_ack_then_header :
    obs .rxAck (busyIn .awaitAck) State.st = some .readHeader ∧
    obs (.rxFrame 0x06#8) (busyIn .readHeader) (fun t => t.hdr.h0) = some 0x06#8 := ⟨rfl, rfl⟩

/-- S16: a start marker that is not STP is found at the sixth header byte. -/
theorem test_bad_start_marker :
    obs (.rxFrame 0x01#8) { busyIn .readHeader with hdrIdx := 5, hdr := ⟨0xEF#8, 0#8, 0#8, 0#8, 0#8, 0#8⟩ }
      State.errCode = some 0x43#8 := by decide

/-- S27: an I/O error on the final ACK; CTRL_BIT is not toggled. -/
theorem test_final_ack_fails :
    obs .txAck (withEnv { busyIn .sendAck with ackFinal := true, rxLen := 1#16, rxBuf := [(0, 0x00#8)] } [] [] [.ioErr] [])
      (fun t => (t.errCode, t.ctrlBit, t.rxLen)) = some (0x81#8, false, 1#16) := by decide

/-- S1: completion, STAT 0x1A. -/
theorem test_final_ack_completes :
    obs .txAck (withEnv { busyIn .sendAck with ackFinal := true, rxLen := 1#16, rxBuf := [(0, 0x00#8)] } [] [] [.ok] [])
      (fun t => (t.env.line, t.stat)) = some ([0x06#8], 0x1A#8) := by decide

/-- S24: RXCRC 0x1131 against CALCCRC 0x3111 is CRC_MISMATCH in VALIDATE. -/
theorem test_crc_mismatch :
    obsStep (withEnv { busyIn .validate with rxAcc := 0xCEEE#16, rxCrc := 0x1131#16 } [.engine] [] [] [])
      (fun t => (t.errCode, t.calcCrc)) = some (0x74#8, 0x3111#16) := by decide

/-! ### The opcode-table words the host asks about -/

theorem test_table_words :
    decodeTableWord 16 0x0001 = some .cmdExchange ∧ decodeTableWord 16 0x0520 = some (.wrSvc 0x20#8) ∧
    decodeTableWord 8 0x06 = some .rxAck ∧ decodeTableWord 8 0xEE = some (.rxFrame 0xEE#8) ∧
    decodeTableWord 8 0x61 = some .svcNegotiate := by decide

theorem test_fetch_word_runs :
    obsStep (State.reset.withFetchWord 16 0x0520) State.svc = some 0x20#8 ∧
    obsStep (State.reset.withFetchWord 8 0x06) State.st = some .readHeader ∧
    obsStep (State.reset.withFetchWord 8 0x61) State.svc = some 0x61#8 := by decide

/-! ### Witnesses: for each statement with hypotheses, a state and operands that meet them together -/

/-- An exchange in its last ACK, with one response byte. -/
def lastAck : State := { busyIn .sendAck with ackFinal := true, rxLen := 1#16, rxBuf := [(0, 0x00#8)] }

/-- The header and trailer of the fragment of S1, data byte 0x00. -/
def okHeader : Header := ⟨0xEE#8, 0x00#8, 0x00#8, 0x00#8, 0x00#8, 0x01#8⟩

theorem idle_inv : idle.Inv where
  params := by decide
  doneErr := rfl
  busyClean h := by cases h
  errLegal := ⟨by decide, fun h => by cases h⟩
  rejectedIff := rfl
  statusZero _ := rfl
  rxLenCap := Nat.zero_le _
  txBufOk := ⟨rfl, rfl⟩
  rxBufOk := ⟨rfl, rfl⟩
  committed _ _ h := absurd h (Nat.not_lt_zero _)
  plenCap _ := Nat.zero_le _
  inSend h := by cases h
  inAwait h := by cases h
  nakBound _ _ := ⟨fun h => (by cases h), fun h => (by cases h)⟩
  inHeader h := by cases h
  inBody h := by cases h
  inCrc h := by cases h
  inValidate h := by cases h

theorem witness_DecodeInvertsEncode :
    Instr.cmdExchange.wf = true ∧ (Instr.rxDiscard 0x05#8).wf = true ∧ (Instr.wrReserved80 127#7 0xFF#8).wf = true := by
  decide

theorem witness_HostStepRunsAccess :
    (withEnv idle [.host] [.wr 0x00#8 0x01#8] [] []).env.turns = .host :: [] ∧
    (withEnv idle [.host] [.wr 0x00#8 0x01#8] [] []).env.hostQ = .wr 0x00#8 0x01#8 :: [] ∧
    decode (HostAccess.wr 0x00#8 0x01#8).word = .ok .cmdExchange ∧
    (withEnv idle [.host] [.svc 0x22#8] [] []).env.hostQ = .svc 0x22#8 :: [] ∧
    decode (HostAccess.svc 0x22#8).word = .error (.noNamedService 0x22#8) := by decide

theorem witness_EngineStepRunsInstruction :
    (withEnv (busyIn .awaitAck) [.engine] [] [] [.byte 0x06#8]).env.turns = .engine :: [] ∧
    (withEnv (busyIn .awaitAck) [.engine] [] [] [.byte 0x06#8]).env.rxQ = .byte 0x06#8 :: [] ∧
    (busyIn .awaitAck).st = .awaitAck ∧ decode ⟨.rxAwait, [0x06#8]⟩ = .ok .rxAck ∧ (busyIn .readHeader).st = .readHeader ∧
    (busyIn .readBody).st = .readBody ∧ (busyIn .readCrc).st = .readCrc ∧ (busyIn .send).st = .send ∧
    (busyIn .sendNak).st = .sendNak ∧ (busyIn .sendAck).st = .sendAck := by decide

theorem witness_PlacedWordRunsNext :
    decodeTableWord 16 0x0001 = some .cmdExchange ∧ tableWord 16 0x0001 = some ⟨.hostWr, [0x01#8, 0x00#8]⟩ ∧
    decodeTableWord 8 0x20 = some .svcIdent ∧ tableWord 8 0x20 = some ⟨.payloadSvc, [0x20#8]⟩ ∧
    decodeTableWord 8 0x15 = some .rxNak ∧ tableWord 8 0x15 = some ⟨.rxAwait, [0x15#8]⟩ ∧
    decodeTableWord 8 0xEE = some (.rxFrame 0xEE#8) ∧ tableWord 8 0xEE = some ⟨.rxFrame, [0xEE#8]⟩ := by decide

theorem witness_EncodedFrameBytes :
    (List.replicate 8182 0x00#8).length ≤ 8182 ∧ 8182 < (List.replicate 8183 0x00#8).length := by
  simp only [List.length_replicate]; omega

theorem witness_FrameRoundTrip : (List.replicate 8182 0xFF#8).length ≤ 8182 := by
  simp only [List.length_replicate]; omega

theorem witness_DecodedFrameEncodesBack :
    decodeFrame [0xEE#8, 0x00#8, 0x20#8, 0x00#8, 0x00#8, 0x01#8, 0x20#8, 0x82#8, 0x70#8] =
      .ok ⟨0x20#8, [], true, 0x00#8⟩ := by decide +kernel

/-- One payload byte, written. -/
def onePayload : State := { idle with svc := 0x20#8, txPlen := 1#16, txBuf := [(0, 0x5A#8)] }

theorem onePayload_written : ∀ j b, ([0x5A#8] : List Byte)[j]? = some b → onePayload.txBuf.read j = some b := by
  intro j b h
  match j with
  | 0 => exact h
  | j + 1 => simp at h

theorem witness_TransmitFrameIsEncoded :
    onePayload.txPlen.toNat ≤ 8182 ∧ [0x5A#8].length = onePayload.txPlen.toNat ∧
    ∀ j b, ([0x5A#8] : List Byte)[j]? = some b → onePayload.txBuf.read j = some b :=
  ⟨by decide, rfl, onePayload_written⟩

theorem witness_ExchangeAcceptedOrIgnored :
    { idle with txPlen := 8182#16 }.st = .idle ∧ { idle with txPlen := 8182#16 }.txPlen.toNat ≤ 8182 ∧
    { idle with txPlen := 8183#16 }.st = .idle ∧ 8182 < { idle with txPlen := 8183#16 }.txPlen.toNat ∧
    (busyIn .send).st ≠ .idle := by decide

theorem witness_SessionInitClears : idle.st = .idle ∧ (busyIn .validate).st ≠ .idle := by decide

theorem witness_ReservedCommandsSetIgn : 6 ≤ (0x06#8).toNat ∧ 6 ≤ (0xFF#8).toNat := by decide

theorem witness_ReservedAddressesInert :
    (0x0B#8 = 0x0B#8 ∨ 0x26 ≤ (0x0B#8).toNat) ∧ 0x26 ≤ (0x26#8).toNat ∧ 0x26 ≤ (0xFF#8).toNat := by decide

theorem witness_RequestWritesWhileIdle : idle.st = .idle := rfl

theorem witness_RequestWritesWhileBusyIgnored : (busyIn .readBody).st ≠ .idle := by decide

theorem witness_TxDataStoresAtPointer :
    (busyIn .sendAck).st ≠ .idle ∧ idle.st = .idle ∧ { idle with txPtr := 8181#16 }.txPtr.toNat < 8182 ∧
    8182 ≤ { idle with txPtr := 8182#16 }.txPtr.toNat := by decide

theorem witness_RxDataReadsAtPointer :
    { lastAck with rxPtr := 0#16 }.rxPtr.toNat < lastAck.rxLen.toNat ∧ lastAck.rxBuf.read 0 = some 0x00#8 ∧
    lastAck.rxLen.toNat ≤ { lastAck with rxPtr := 1#16 }.rxPtr.toNat := by decide

theorem witness_ServiceCodesWriteSvc :
    (Instr.svcIdent, 0x20#8) ∈ [(Instr.svcIdent, 0x20#8)] ∧ idle.st = .idle ∧ (busyIn .send).st ≠ .idle := by decide

/-- Sending the last byte of the payload, and the last byte of the frame. -/
theorem witness_TxFrameSendsNextByte :
    { onePayload with st := .send, txIdx := 7#14 }.txFrameByte 7 = .ok 0x5A#8 ∧
    (7#14).toNat + 1 < onePayload.txPlen.toNat + 9 ∧
    (after (exec .txFrame (withEnv { onePayload with st := .send, txIdx := 9#14 } [] [] [.ok] []))).isSome = true ∧
    onePayload.txPlen.toNat + 9 ≤ (9#14).toNat + 1 := by decide +kernel

theorem witness_UnwrittenPayloadByteFaults :
    7 ≤ (7#14).toNat ∧ (7#14).toNat < 7 + (1#16).toNat ∧ (1#16).toNat ≤ 8182 ∧ idle.txBuf.read ((7#14).toNat - 7) = none := by
  decide

theorem witness_TransmitErrorEndsExchange :
    (withEnv (busyIn .send) [] [] [.ioErr] []).env.txQ = .ioErr :: [] ∧
    (withEnv (busyIn .send) [] [] [.ioErr] []).txFrameByte 0 = .ok 0xEE#8 ∧ (busyIn .sendNak).st = .sendNak ∧
    (busyIn .sendAck).st = .sendAck := by decide

theorem witness_TxNakPromptsRetransmission :
    (withEnv (busyIn .sendNak) [] [] [.ok] []).st = .sendNak ∧
    (withEnv (busyIn .sendNak) [] [] [.ok] []).env.txQ = .ok :: [] := by decide

theorem witness_TxAckContinuesOrCompletes :
    lastAck.st = .sendAck ∧ (withEnv lastAck [] [] [.ok] []).env.txQ = .ok :: [] ∧ (busyIn .sendAck).ackFinal = false ∧
    lastAck.ackFinal = true ∧ { lastAck with rxLen := 0#16 }.rxLen = 0#16 ∧ lastAck.rxLen ≠ 0#16 ∧
    lastAck.rxBuf.read 0 = some 0x00#8 := by decide

theorem witness_AckStartsHeaderNakEnds : (busyIn .awaitAck).st = .awaitAck := rfl

theorem witness_DiscardCountsTowardNak :
    (busyIn .awaitAck).st = .awaitAck ∧ { idle with discCnt := 1 }.discCnt + 1 < idle.par.nDiscard ∧
    idle.par.nDiscard ≤ { idle with discCnt := 2 }.discCnt + 1 ∧
    { idle with par := ⟨3, none, true, 65535#16⟩ }.par.nakRoundsMax = none ∧ idle.par.nakRoundsMax = some 1 ∧
    (0x00#8).toNat < (1 : Fin 255).val ∧ (1 : Fin 255).val ≤ (0x01#8).toNat := by decide

theorem witness_HeaderByteStored :
    (busyIn .readHeader).hdrIdx = (0 : Fin 5).val ∧ { busyIn .readHeader with hdrIdx := 4 }.hdrIdx = (4 : Fin 5).val := by
  decide

/-- Length 8183 is taken, 8184 is not (strict); REASM_CAP is reached and passed by one; a length of 0 goes to the trailer. -/
theorem witness_SixthHeaderByteChecked :
    obs (.rxFrame 0xF7#8) { busyIn .readHeader with hdrIdx := 5, hdr := ⟨0xEE#8, 0#8, 0#8, 0#8, 0x1F#8, 0#8⟩ }
      (fun t => (t.st, t.fragLen)) = some (.readBody, 8183#16) ∧
    obs (.rxFrame 0xF8#8) { busyIn .readHeader with hdrIdx := 5, hdr := ⟨0xEE#8, 0#8, 0#8, 0#8, 0x1F#8, 0#8⟩ }
      State.errCode = some 0x43#8 ∧
    obs (.rxFrame 0x01#8) { busyIn .readHeader with hdrIdx := 5, hdr := ⟨0xEE#8, 0#8, 0#8, 0#8, 0#8, 0#8⟩, rxLen := 65534#16 }
      State.st = some .readBody ∧
    obs (.rxFrame 0x01#8) { busyIn .readHeader with hdrIdx := 5, hdr := ⟨0xEE#8, 0#8, 0#8, 0#8, 0#8, 0#8⟩, rxLen := 65535#16 }
      State.errCode = some 0x47#8 ∧
    obs (.rxFrame 0x00#8) { busyIn .readHeader with hdrIdx := 5, hdr := ⟨0xEE#8, 0#8, 0#8, 0#8, 0#8, 0#8⟩ }
      State.st = some .readCrc := by decide +kernel

theorem witness_BodyByteStored :
    (busyIn .readBody).st = .readBody ∧
    { idle with rxLen := 65533#16, bodyIdx := 1#16 }.rxLen.toNat + (1#16).toNat < idle.par.reasmCap.toNat := by decide

theorem witness_TrailerBytesLowFirst :
    (busyIn .readCrc).st = .readCrc ∧ (busyIn .readCrc).crcIdx = 0 ∧ { busyIn .readCrc with crcIdx := 1 }.crcIdx = 1 := by
  decide

theorem witness_ValidateCommitsOrMismatch :
    (withEnv (busyIn .validate) [.engine] [] [] []).env.turns = .engine :: [] ∧
    { busyIn .validate with rxCrc := 0xFFFF#16 }.rxAcc ^^^ 0xFFFF#16 = 0xFFFF#16 ∧
    (busyIn .validate).rxAcc ^^^ 0xFFFF#16 ≠ (busyIn .validate).rxCrc := by decide

theorem witness_ReceiveFailuresEndExchange :
    (SeqState.awaitAck, 0x22#8, 0x21#8) ∈ [(SeqState.awaitAck, 0x22#8, 0x21#8)] ∧
    (withEnv (busyIn .awaitAck) [.engine] [] [] [.timeout]).env.rxQ = .timeout :: [] ∧
    (withEnv (busyIn .readCrc) [.engine] [] [] [.ioErr]).env.rxQ = .ioErr :: [] ∧
    (busyIn .readHeader).st = .readHeader ∧ (busyIn .readBody).st = .readBody := by decide

theorem witness_IdleEngineDoesNothing :
    (withEnv idle [.engine] [] [] []).env.turns = .engine :: [] ∧ idle.st = .idle ∧ (busyIn .awaitAck).rxReq = true ∧
    (busyIn .awaitAck).env.rxQ = [] ∧ (busyIn .send).st = .send ∧ (busyIn .send).txFrameByte 0 = .ok 0xEE#8 ∧
    (busyIn .send).env.txQ = [] ∧ (busyIn .sendNak).st = .sendNak ∧ (busyIn .sendAck).st = .sendAck ∧
    (busyIn .sendAck).env.txQ = [] ∧ idle.env.turns = [] := by decide

theorem witness_ResetStepRestoresRegisters : (withEnv lastAck [.reset] [] [] []).env.turns = .reset :: [] := rfl

theorem withEnv_inv (s : State) (h : s.Inv) (turns : List Turn) (hostQ : List HostAccess) (txQ : List TxAnswer)
    (rxQ : List RxAnswer) : (withEnv s turns hostQ txQ rxQ).Inv := by
  obtain ⟨h1, h2, h3, h4, h5, h6, h7, h8, h9, h10, h11, h12, h13, h14, h15, h16, h17, h18⟩ := h
  exact ⟨h1, h2, h3, h4, h5, h6, h7, h8, h9, h10, h11, h12, h13, h14, h15, h16, h17, h18⟩

theorem witness_EveryStepKeepsInvariant :
    (withEnv idle [.host] [.wr 0x00#8 0x01#8] [] []).Inv ∧
    (after (step (withEnv idle [.host] [.wr 0x00#8 0x01#8] [] []))).isSome = true := ⟨withEnv_inv _ idle_inv _ _ _ _, rfl⟩

/-- At the start of a fragment. -/
def headerStart : State := { busyIn .readHeader with rxAcc := 0xFFFF#16 }

theorem headerStart_inv : headerStart.Inv where
  params := by decide
  doneErr := rfl
  busyClean _ := ⟨rfl, rfl, rfl⟩
  errLegal := ⟨by decide, fun h => by cases h⟩
  rejectedIff := rfl
  statusZero _ := rfl
  rxLenCap := Nat.zero_le _
  txBufOk := ⟨rfl, rfl⟩
  rxBufOk := ⟨rfl, rfl⟩
  committed _ _ h := absurd h (Nat.not_lt_zero _)
  plenCap _ := Nat.zero_le _
  inSend h := by cases h
  inAwait h := by cases h
  nakBound _ _ := ⟨fun h => (by cases h), fun h => (by cases h)⟩
  inHeader _ := ⟨by decide, rfl, rfl⟩
  inBody h := by cases h
  inCrc h := by cases h
  inValidate h := by cases h

def atHeader (turns : List Turn) (rxQ : List RxAnswer) : State := withEnv headerStart turns [] [] rxQ

theorem atHeader_inv (turns : List Turn) (rxQ : List RxAnswer) : (atHeader turns rxQ).Inv :=
  withEnv_inv _ headerStart_inv _ _ _ _

theorem atHeader_crcInv (turns : List Turn) (rxQ : List RxAnswer) : (atHeader turns rxQ).CrcInv :=
  ⟨fun _ => rfl, (by intro h; cases h), (by intro h; cases h), (by intro h; cases h)⟩

theorem witness_EveryStepKeepsReceiveCrc :
    (atHeader [.engine] [.byte 0xEE#8]).Inv ∧ (atHeader [.engine] [.byte 0xEE#8]).CrcInv ∧
    (after (step (atHeader [.engine] [.byte 0xEE#8]))).isSome = true := ⟨atHeader_inv _ _, atHeader_crcInv _ _, by decide⟩

/-- The fragment of S25 (no data), in VALIDATE. -/
def atValidate : State :=
  withEnv { busyIn .validate with
    hdr := ⟨0xEE#8, 0#8, 0#8, 0#8, 0#8, 0#8⟩
    rxAcc := 0xB3C1#16, rxCrc := 0x4C3E#16 } [.engine] [] [] []

theorem atValidate_data : atValidate.hdr.bytes ++ atValidate.fragData atValidate.fragLen.toNat =
    [0xEE#8, 0#8, 0#8, 0#8, 0#8, 0#8] := rfl

theorem atValidate_acc : 0xB3C1#16 = crcFeed 0xFFFF#16 [0xEE#8, 0#8, 0#8, 0#8, 0#8, 0#8] := by decide +kernel

theorem atValidate_crcInv : atValidate.CrcInv where
  inHeader h := by cases h
  inBody h := by cases h
  inCrc h := by cases h
  inValidate _ := ⟨⟨rfl, rfl, rfl⟩, by rw [atValidate_data]; exact atValidate_acc⟩

theorem witness_FragmentPassesIffCrcVerifies :
    atValidate.CrcInv ∧ atValidate.st = .validate ∧ atValidate.env.turns = .engine :: [] ∧
    verifyCrc (atValidate.hdr.bytes ++ atValidate.fragData atValidate.fragLen.toNat) 0x3E#8 0x4C#8 = true ∧
    verifyCrc (atValidate.hdr.bytes ++ atValidate.fragData atValidate.fragLen.toNat) 0x00#8 0x00#8 = false := by
  rw [atValidate_data]
  exact ⟨atValidate_crcInv, rfl, rfl, by decide +kernel, by decide +kernel⟩

theorem witness_OnlyUnwrittenPayloadFaults : idle.Inv ∧ idle.payloadWritten :=
  ⟨idle_inv, fun k _ h2 => absurd h2 (Nat.not_lt_zero k)⟩

theorem witness_ControlBitChangesOnlyOnCompletion :
    obsStep (withEnv lastAck [.engine] [] [.ok] []) State.ctrlBit = some true ∧
    obsStep (withEnv { idle with ctrlBit := true } [.host] [.wr 0x00#8 0x02#8] [] []) State.ctrlBit = some false ∧
    obsStep (withEnv { idle with ctrlBit := true } [.reset] [] [] []) State.ctrlBit = some false := by decide

theorem witness_TransmitFrameFixedWhileBusy :
    (busyIn .send).busy = true ∧ obsStep (withEnv (busyIn .send) [.host] [.wr 0x05#8 0x30#8] [] []) State.busy = some true := by
  decide

theorem witness_EngineIndependentOfChecksumUnits :
    (withEnv (busyIn .awaitAck) [.engine] [] [] [.byte 0x06#8]).env.turns = .engine :: [] ∧
    (after (step (withEnv (busyIn .awaitAck) [.engine] [] [] [.byte 0x06#8]))).isSome = true := by decide

theorem witness_ErrorEntryKeepsTheRest :
    (busyIn .awaitAck).err = false ∧ (busyIn .awaitAck).busy = true ∧
    obsStep (withEnv (busyIn .awaitAck) [.engine] [] [] [.byte 0x15#8]) State.err = some true := by decide

/-- A request of one payload byte, all its bytes accepted. -/
theorem witness_RequestSentExactly :
    { onePayload with st := .send }.txIdx = 0#14 ∧ [0x5A#8].length = onePayload.txPlen.toNat ∧
    (withEnv { onePayload with st := .send } (List.replicate 10 .engine) [] (List.replicate 10 .ok) []).env.turns =
      List.replicate ([0x5A#8].length + 9) .engine ++ [] ∧
    ∀ j b, ([0x5A#8] : List Byte)[j]? = some b → onePayload.txBuf.read j = some b :=
  ⟨rfl, rfl, rfl, onePayload_written⟩

theorem okHeader_verifies : verifyCrc (okHeader.bytes ++ [0x00#8]) 0x11#8 0x31#8 = true := by decide +kernel

theorem witness_FragmentReceivedAndCommitted :
    (atHeader (List.replicate 10 .engine) ((okHeader.bytes ++ [0x00#8] ++ [0x11#8, 0x31#8]).map .byte)).Inv ∧
    (atHeader [] []).st = .readHeader ∧ (atHeader [] []).hdrIdx = 0 ∧ (atHeader [] []).rxAcc = 0xFFFF#16 ∧
    okHeader.h0 = 0xEE#8 ∧ okHeader.length.toNat = [0x00#8].length ∧
    (atHeader [] []).rxLen.toNat + [0x00#8].length ≤ (atHeader [] []).par.reasmCap.toNat ∧
    verifyCrc (okHeader.bytes ++ [0x00#8]) 0x11#8 0x31#8 = true :=
  ⟨atHeader_inv _ _, rfl, rfl, rfl, rfl, rfl, by decide, okHeader_verifies⟩

/-- V7, S1: the Ident exchange. -/
def identStart : State :=
  withEnv idle (.host :: List.replicate (0 + 9 + 1 + (1 + 9) + 1) .engine) [.wr 0x00#8 0x01#8] (List.replicate 10 .ok)
    (.byte 0x06#8 :: (okHeader.bytes ++ [0x00#8] ++ [0x11#8, 0x31#8]).map .byte)

theorem witness_ExchangeCompletes :
    identStart.Inv ∧ identStart.st = .idle ∧ ([] : List Byte).length = identStart.txPlen.toNat ∧
    okHeader.h0 = 0xEE#8 ∧ okHeader.moreFlag = false ∧ okHeader.length.toNat = [0x00#8].length ∧
    verifyCrc (okHeader.bytes ++ [0x00#8]) 0x11#8 0x31#8 = true ∧ identStart.env.hostQ = [.wr 0x00#8 0x01#8] ∧
    (∀ j b, ([] : List Byte)[j]? = some b → identStart.txBuf.read j = some b) :=
  ⟨withEnv_inv _ idle_inv _ _ _ _, rfl, rfl, rfl, rfl, rfl, okHeader_verifies, rfl, fun j b h => by simp at h⟩

end Sys2Proof.Tests
end

section
/-! The reserved addresses (20_memory R68): the rows of the reserved ranges, that the decoder gives one of them at each
reserved address, and that they are inert. -/

namespace Sys2Proof.Machine

/-- A read and a write of one reserved row of the opcode table: the same range, the same low address bits. -/
inductive ReservedRow : Instr → Instr → Prop where
  | at0B (d : Byte) : ReservedRow .rdReserved0B (.wrReserved0B d)
  | from26 (low : BitVec 1) (d : Byte) : ReservedRow (.rdReserved26 low) (.wrReserved26 low d)
  | from28 (low : BitVec 3) (d : Byte) : ReservedRow (.rdReserved28 low) (.wrReserved28 low d)
  | from30 (low : BitVec 4) (d : Byte) : ReservedRow (.rdReserved30 low) (.wrReserved30 low d)
  | from40 (low : BitVec 6) (d : Byte) : ReservedRow (.rdReserved40 low) (.wrReserved40 low d)
  | from80 (low : BitVec 7) (d : Byte) : ReservedRow (.rdReserved80 low) (.wrReserved80 low d)

/-- A reserved row's effect depends neither on its address bits nor on the byte written (R68). -/
theorem ReservedRow.inert {r w : Instr} (h : ReservedRow r w) (s : State) :
    exec r s = .next (s.returns 0x00#8) ∧ exec w s = .next s := by
  cases h with
  | at0B d => exact ⟨rfl, rfl⟩
  | from26 low d => exact ⟨rfl, rfl⟩
  | from28 low d => exact ⟨rfl, rfl⟩
  | from30 low d => exact ⟨rfl, rfl⟩
  | from40 low d => exact ⟨rfl, rfl⟩
  | from80 low d => exact ⟨rfl, rfl⟩

/-- Above the last register, HDR5 at 0x25, a read's address matches no register: only its range counts. -/
theorem decodeRead_above_registers {a : Byte} (h : 0x26 ≤ a.toNat) :
    decodeRead a =
      if a.toNat < 0x28 then .rdReserved26 (a.extractLsb' 0 1)
      else if a.toNat < 0x30 then .rdReserved28 (a.extractLsb' 0 3)
      else if a.toNat < 0x40 then .rdReserved30 (a.extractLsb' 0 4)
      else if a.toNat < 0x80 then .rdReserved40 (a.extractLsb' 0 6)
      else .rdReserved80 (a.extractLsb' 0 7) := by
  unfold decodeRead
  split
  any_goals omega
  rfl

/-- The write's side of `decodeRead_above_registers`: the same ranges. -/
theorem decodeWrite_above_registers {a : Byte} (d : Byte) (h : 0x26 ≤ a.toNat) :
    decodeWrite a d =
      if a.toNat < 0x28 then .wrReserved26 (a.extractLsb' 0 1) d
      else if a.toNat < 0x30 then .wrReserved28 (a.extractLsb' 0 3) d
      else if a.toNat < 0x40 then .wrReserved30 (a.extractLsb' 0 4) d
      else if a.toNat < 0x80 then .wrReserved40 (a.extractLsb' 0 6) d
      else .wrReserved80 (a.extractLsb' 0 7) d := by
  unfold decodeWrite
  split
  any_goals omega
  rfl

/-- The read and the write of a reserved address decode to the two instructions of one reserved row. -/
theorem decode_reservedRow {a : Byte} (d : Byte) (h : a = 0x0B#8 ∨ 0x26 ≤ a.toNat) :
    ReservedRow (decodeRead a) (decodeWrite a d) := by
  obtain rfl | habove := h
  · exact .at0B d
  · rw [decodeRead_above_registers habove, decodeWrite_above_registers d habove]
    split_ifs
    · exact .from26 _ d
    · exact .from28 _ d
    · exact .from30 _ d
    · exact .from40 _ d
    · exact .from80 _ d

/-- Settles O25: the decoder gives a reserved row at every reserved address, and every reserved row is inert. -/
theorem reservedAddressesInert : Obligations.ReservedAddressesInert := by
  intro s d
  have hdecoded : ∀ a : Byte, a = 0x0B#8 ∨ 0x26 ≤ a.toNat →
      ∃ r w, decode ⟨.hostRd, [d, a]⟩ = .ok r ∧ exec r s = .next (s.returns 0x00#8) ∧
        decode ⟨.hostWr, [d, a]⟩ = .ok w ∧ exec w s = .next s := by
    intro a ha
    obtain ⟨hread, hwrite⟩ := (decode_reservedRow d ha).inert s
    exact ⟨decodeRead a, decodeWrite a d, rfl, hread, rfl, hwrite⟩
  obtain ⟨hread0B, hwrite0B⟩ := (ReservedRow.at0B d).inert s
  exact ⟨hdecoded, hread0B, hwrite0B,
    fun low => (ReservedRow.from26 low d).inert s,
    fun low => (ReservedRow.from28 low d).inert s,
    fun low => (ReservedRow.from30 low d).inert s,
    fun low => (ReservedRow.from40 low d).inert s,
    fun low => (ReservedRow.from80 low d).inert s⟩

end Sys2Proof.Machine
end

section
/-! The bytes received in AWAIT_ACK (30_encoding R91): what each of the two link symbols and every other byte decode to. -/

namespace Sys2Proof.Machine

@[simp] theorem decodeAwait_ack : decodeAwait 0x06#8 = .rxAck := rfl

@[simp] theorem decodeAwait_nak : decodeAwait 0x15#8 = .rxNak := rfl

theorem decodeAwait_other {b : Byte} (hack : b ≠ 0x06#8) (hnak : b ≠ 0x15#8) : decodeAwait b = .rxDiscard b :=
  (if_neg hack).trans (if_neg hnak)

/-- Settles O3, by R91's three cases: ACK, NAK and every other byte. -/
theorem awaitAckBytesDecode : Obligations.AwaitAckBytesDecode := by
  intro b
  have hformat : decode ⟨.rxAwait, [b]⟩ = .ok (decodeAwait b) := rfl
  rw [hformat]
  split_ifs with hack hnak
  · rw [hack, decodeAwait_ack]
  · rw [hnak, decodeAwait_nak]
  · rw [decodeAwait_other hack hnak]

end Sys2Proof.Machine
end

section
/-! The bit-reversed CRC (40_checksums R112): a bit reversal turns a right shift into a left shift and 0x8408 into 0x1021,
so at every bit the MSB-first register is the reversal of the right-shift register. -/

namespace Sys2Proof.Machine

theorem reverse_xor {w : Nat} (x y : BitVec w) : (x ^^^ y).reverse = x.reverse ^^^ y.reverse := by
  apply BitVec.eq_of_getLsbD_eq
  intro i _
  simp only [BitVec.getLsbD_reverse, BitVec.getLsbD_xor, BitVec.getMsbD_xor]

theorem reverse_ushiftRight {w : Nat} (x : BitVec w) (n : Nat) : (x >>> n).reverse = x.reverse <<< n := by
  apply BitVec.eq_of_getMsbD_eq
  intro i hi
  rw [BitVec.getMsbD_reverse, BitVec.getLsbD_ushiftRight, BitVec.getMsbD_shiftLeft, BitVec.getMsbD_reverse, Nat.add_comm]

/-- A byte in the low half of a register stands, reversed, in the high half of the reversed register. -/
theorem reverse_setWidth_byte (b : Byte) : (b.setWidth 16 : Half).reverse = b.reverse.setWidth 16 <<< 8 := by
  apply BitVec.eq_of_getMsbD_eq
  intro i hi
  simp only [BitVec.getMsbD_reverse, BitVec.getMsbD_shiftLeft, BitVec.getMsbD_setWidth, BitVec.getLsbD_setWidth]
  simp [hi]

theorem crcMsbBit_reverse (c : Half) : crcMsbBit c.reverse = (crcBit c).reverse := by
  have hpoly : (0x8408#16 : Half).reverse = 0x1021#16 := by decide
  have hout : c.reverse.getLsbD 15 = c.getLsbD 0 := BitVec.getLsbD_reverse
  unfold crcMsbBit crcBit
  rw [hout]
  split
  · rw [reverse_xor, reverse_ushiftRight, hpoly]
  · rw [reverse_ushiftRight]

theorem crcMsbBits_reverse (n : Nat) (c : Half) : crcMsbBits n c.reverse = (crcBits n c).reverse := by
  induction n generalizing c with
  | zero => rfl
  | succ n ih => rw [crcMsbBits, crcBits, crcMsbBit_reverse, ih]

theorem crcMsbStep_reverse (c : Half) (b : Byte) : crcMsbStep c.reverse b = (crcStep c b).reverse := by
  rw [crcMsbStep, crcStep, ← reverse_setWidth_byte, ← reverse_xor, crcMsbBits_reverse]

theorem foldl_crcMsbStep_reverse (c : Half) (s : List Byte) : s.foldl crcMsbStep c.reverse = (crcFeed c s).reverse := by
  induction s generalizing c with
  | nil => rfl
  | cons b s ih => rw [List.foldl_cons, crcMsbStep_reverse, ih, crcFeed_cons]

/-- Settles O8: the two registers are each other's reversal from the initial value on, which is its own reversal. -/
theorem msbFirstCrcIsTheSame : Obligations.MsbFirstCrcIsTheSame := by
  intro s
  have hinit : (0xFFFF#16 : Half).reverse = 0xFFFF#16 := by decide
  have hreg : s.foldl crcMsbStep 0xFFFF#16 = (crcFeed 0xFFFF#16 s).reverse := by
    rw [← foldl_crcMsbStep_reverse, hinit]
  rw [crc16Msb, crc16, hreg, BitVec.reverse_reverse_eq]

end Sys2Proof.Machine
end

section
/-! The CRC residue (40_checksums R114). CrcStep is linear, and the eight shifts of a byte carry the high half of the
register down unchanged; so feeding a register its own low byte, complemented, leaves a value that only the high byte
enters, and feeding the high byte too leaves a constant. -/

namespace Sys2Proof.Machine

/-- What one bit of CrcStep adds to the shift: the polynomial when the bit shifted out is 1. -/
def crcFeedback (out : Bool) : Half := if out then 0x8408#16 else 0x0000#16

theorem crcBit_eq_shift_xor_feedback (c : Half) : crcBit c = (c >>> 1) ^^^ crcFeedback (c.getLsbD 0) := by
  unfold crcBit crcFeedback
  split
  · rfl
  · rw [BitVec.xor_zero]

theorem crcFeedback_xor (p q : Bool) : crcFeedback (p ^^ q) = crcFeedback p ^^^ crcFeedback q := by
  revert p q
  decide

theorem crcBit_xor (x y : Half) : crcBit (x ^^^ y) = crcBit x ^^^ crcBit y := by
  simp only [crcBit_eq_shift_xor_feedback, BitVec.getLsbD_xor, crcFeedback_xor, BitVec.ushiftRight_xor_distrib]
  ac_rfl

theorem crcBits_xor (n : Nat) (x y : Half) : crcBits n (x ^^^ y) = crcBits n x ^^^ crcBits n y := by
  induction n generalizing x y with
  | zero => rfl
  | succ n ih => simp only [crcBits, crcBit_xor, ih]

theorem crcBit_toNat_of_even {c : Half} {m : Nat} (h : c.toNat = 2 * m) : (crcBit c).toNat = m := by
  have hbit : c.getLsbD 0 = false := by
    rw [BitVec.getLsbD, h, Nat.testBit_zero]
    simp
  have hzero : crcFeedback false = 0#16 := rfl
  rw [crcBit_eq_shift_xor_feedback, hbit, hzero, BitVec.xor_zero, BitVec.toNat_ushiftRight, h, Nat.shiftRight_eq_div_pow]
  omega

/-- While the low bits are 0 the polynomial never enters: `n` bits of CrcStep are `n` shifts. -/
theorem crcBits_toNat_of_eq_mul {n : Nat} {c : Half} {m : Nat} (h : c.toNat = 2 ^ n * m) : (crcBits n c).toNat = m := by
  induction n generalizing c with
  | zero => simpa [crcBits] using h
  | succ n ih =>
    have hshift : (crcBit c).toNat = 2 ^ n * m := crcBit_toNat_of_even (by rw [h]; ring)
    rw [crcBits, ih hshift]

/-- Eight bits of CrcStep shift a high byte down, unchanged. -/
theorem crcBits_pair_zero (h : Byte) : crcBits 8 (pair h 0#8) = pair 0#8 h := by
  have hlow : (pair h 0#8).toNat = 2 ^ 8 * (pair 0#8 h).toNat := by simp [pair_toNat, Nat.mul_comm]
  exact BitVec.eq_of_toNat_eq (crcBits_toNat_of_eq_mul hlow)

theorem pair_xor (h l h' l' : Byte) : pair h l ^^^ pair h' l' = pair (h ^^^ h') (l ^^^ l') :=
  BitVec.xor_append

theorem setWidth_eq_pair_zero (l : Byte) : l.setWidth 16 = pair 0#8 l := by
  apply BitVec.eq_of_toNat_eq
  rw [pair_toNat, BitVec.toNat_setWidth, Nat.mod_eq_of_lt (by omega)]
  simp

/-- CrcStep by table: the low byte and the input choose the table's entry, the high byte is shifted down onto it. -/
theorem crcStep_pair (h l b : Byte) : crcStep (pair h l) b = crcBits 8 (pair 0#8 (l ^^^ b)) ^^^ pair 0#8 h := by
  have hsplit : pair h l ^^^ pair 0#8 b = pair 0#8 (l ^^^ b) ^^^ pair h 0#8 := by
    simp only [pair_xor, BitVec.xor_zero, BitVec.zero_xor]
  rw [crcStep, setWidth_eq_pair_zero, hsplit, crcBits_xor, crcBits_pair_zero]

/-- The register after its own two bytes, complemented, is R114's constant whatever it was before. -/
theorem crcFeed_complement (h l : Byte) : crcFeed (pair h l) [l ^^^ 0xFF#8, h ^^^ 0xFF#8] = 0xF0B8#16 := by
  have hentry : crcBits 8 (pair 0#8 0xFF#8) = pair 0x0F#8 0x78#8 := by decide
  have hlast : crcBits 8 (pair 0#8 (0x78#8 ^^^ 0xFF#8)) ^^^ pair 0#8 0x0F#8 = 0xF0B8#16 := by decide
  have hlow : crcStep (pair h l) (l ^^^ 0xFF#8) = pair 0x0F#8 (0x78#8 ^^^ h) := by
    rw [crcStep_pair, ← BitVec.xor_assoc, BitVec.xor_self, BitVec.zero_xor, hentry, pair_xor, BitVec.xor_zero]
  have hhigh : 0x78#8 ^^^ h ^^^ (h ^^^ 0xFF#8) = 0x78#8 ^^^ 0xFF#8 := by
    rw [BitVec.xor_assoc, ← BitVec.xor_assoc h, BitVec.xor_self, BitVec.zero_xor]
  rw [crcFeed_cons, crcFeed_cons, crcFeed_nil, hlow, crcStep_pair, hhigh, hlast]

theorem lo_xor (x y : Half) : lo (x ^^^ y) = lo x ^^^ lo y := BitVec.extractLsb'_xor

theorem hi_xor (x y : Half) : hi (x ^^^ y) = hi x ^^^ hi y := BitVec.extractLsb'_xor

/-- Settles O9: the trailer is the register's two bytes complemented, so it takes the register to the constant. -/
theorem crcResidueIsConstant : Obligations.CrcResidueIsConstant := by
  intro f
  have hlo : lo (crc16 f) = lo (crcFeed 0xFFFF#16 f) ^^^ 0xFF#8 := lo_xor _ _
  have hhi : hi (crc16 f) = hi (crcFeed 0xFFFF#16 f) ^^^ 0xFF#8 := hi_xor _ _
  have hreg : crcFeed 0xFFFF#16 (f ++ [lo (crc16 f), hi (crc16 f)]) = 0xF0B8#16 := by
    rw [hlo, hhi, crcFeed_append, ← crcFeed_complement (hi (crcFeed 0xFFFF#16 f)) (lo (crcFeed 0xFFFF#16 f)), pair_hi_lo]
  refine ⟨?_, hreg⟩
  rw [crc16, hreg]
  rfl

end Sys2Proof.Machine
end

section
/-! The table checksum (40_checksums R116, R121): the result byte is the two's-complement negation of the byte sum. -/

namespace Sys2Proof.Machine

theorem tckResult_eq_neg (sum : Byte) : tckResult sum = -sum := by
  have hones : 0xFF#8 = BitVec.allOnes 8 := rfl
  rw [tckResult, hones, BitVec.xor_allOnes, BitVec.not_sub_one_eq_not_add_one, BitVec.neg_eq_not_add]

theorem tck_toNat (s : List Byte) : (tck s).toNat = (256 - (s.map BitVec.toNat).sum % 256) % 256 := by
  rw [tck, tckResult_eq_neg, BitVec.toNat_neg, tckFeed_toNat, BitVec.toNat_ofNat]
  simp

/-- Settles O10: the closed form, and from it the sum law. -/
theorem tableChecksumNegatesSum : Obligations.TableChecksumNegatesSum := by
  intro s
  refine ⟨tck_toNat s, ?_⟩
  rw [tck_toNat]
  omega

end Sys2Proof.Machine
end

section
/-! The host's accesses to the checksum units (40_checksums R117, R118, R120, R121). -/

namespace Sys2Proof.Machine

theorem exec_wrCrcData (s : State) (d : Byte) :
    exec (.wrCrcData d) s = .next { s with crcAcc := crcStep s.crcAcc d } := rfl

theorem exec_rdCrcResLo (s : State) : exec .rdCrcResLo s = .next (s.returns (lo s.crcRes)) := rfl

theorem exec_rdCrcResHi (s : State) : exec .rdCrcResHi s = .next (s.returns (hi s.crcRes)) := rfl

theorem exec_wrTckData (s : State) (d : Byte) :
    exec (.wrTckData d) s = .next { s with tckSum := s.tckSum + d } := rfl

theorem exec_rdTckRes (s : State) : exec .rdTckRes s = .next (s.returns (tckResult s.tckSum)) := rfl

/-- R121's arithmetic on numbers: subtracting 1 modulo 256 is adding 255. -/
theorem tckResult_eq_ofNat (sum : Byte) : tckResult sum = BitVec.ofNat 8 ((sum.toNat + 255) % 256 ^^^ 255) := by
  have hpred : (sum - 1#8).toNat = (sum.toNat + 255) % 256 := by
    rw [BitVec.toNat_sub, Nat.add_comm]
    rfl
  rw [← hpred, BitVec.ofNat_xor, BitVec.ofNat_toNat, BitVec.setWidth_eq]
  rfl

/-- Settles O31: the five accesses, with the bytes they return and store as numbers. -/
theorem checksumUnitAccesses : Obligations.ChecksumUnitAccesses := by
  intro s d
  refine ⟨exec_wrCrcData s d, ?_, ?_, ?_, ?_⟩
  · rw [exec_rdCrcResLo, lo_eq_ofNat]
    rfl
  · rw [exec_rdCrcResHi, hi_eq_ofNat]
    rfl
  · rw [exec_wrTckData, BitVec.ofNat_add, BitVec.ofNat_toNat, BitVec.ofNat_toNat, BitVec.setWidth_eq, BitVec.setWidth_eq]
  · rw [exec_rdTckRes, tckResult_eq_ofNat]
    rfl

end Sys2Proof.Machine
end

section
/-! Encode and Decode (41_framer R130 to R134). Encode's frame is its body (the head with the length, then the payload)
and the trailer; both the decoder and R134's claim check the CRC at that one cut, so the two meet in
`verifyCrc_append_trailer`. -/

namespace Sys2Proof.Machine

/-- All of Encode's frame but the trailer (R130). -/
def frameBody (svc : Byte) (p : List Byte) (cb : Bool) (seq : Byte) : List Byte :=
  frameHead svc (BitVec.ofNat 16 (p.length + 1)) cb seq ++ p

@[simp] theorem frameBody_length (svc : Byte) (p : List Byte) (cb : Bool) (seq : Byte) :
    (frameBody svc p cb seq).length = p.length + 7 := by
  rw [frameBody, List.length_append, frameHead_length, Nat.add_comm]

theorem encodeFrame_of_le_txCap {p : List Byte} (h : p.length ≤ Config.txCap) (svc : Byte) (cb : Bool) (seq : Byte) :
    encodeFrame svc p cb seq = some (frameBody svc p cb seq ++ trailer (frameBody svc p cb seq)) :=
  if_pos (Nat.succ_le_succ h)

theorem encodeFrame_of_txCap_lt {p : List Byte} (h : Config.txCap < p.length) (svc : Byte) (cb : Bool) (seq : Byte) :
    encodeFrame svc p cb seq = none :=
  if_neg (Nat.not_le_of_lt (Nat.succ_lt_succ h))

/-- The length field of an encodable payload does not wrap. -/
theorem lengthField_toNat {n : Nat} (h : n ≤ Config.txCap) : (BitVec.ofNat 16 (n + 1)).toNat = n + 1 := by
  rw [BitVec.toNat_ofNat, Nat.mod_eq_of_lt (by unfold Config.txCap at h; omega)]

theorem trailer_eq_ofNat (body : List Byte) :
    trailer body = [BitVec.ofNat 8 (crc16 body).toNat, BitVec.ofNat 8 ((crc16 body).toNat / 256)] := by
  rw [trailer, lo_eq_ofNat, hi_eq_ofNat]

theorem frameBody_eq_ofNat {p : List Byte} (h : p.length ≤ Config.txCap) (svc : Byte) (cb : Bool) (seq : Byte) :
    frameBody svc p cb seq =
      [0xEE#8, 0x00#8, if cb then 0x20#8 else 0x00#8, seq, BitVec.ofNat 8 ((p.length + 1) / 256),
        BitVec.ofNat 8 (p.length + 1), svc] ++ p := by
  rw [frameBody, frameHead, hi_eq_ofNat, lo_eq_ofNat, lengthField_toNat h]
  rfl

/-- Settles O11: the two branches of Encode, the frame's head and trailer with their bytes as numbers. -/
theorem encodedFrameBytes : Obligations.EncodedFrameBytes := by
  intro svc p cb seq
  refine ⟨fun hfits => ?_, fun hlong => encodeFrame_of_txCap_lt hlong svc cb seq⟩
  refine ⟨frameBody svc p cb seq, frameBody_eq_ofNat hfits svc cb seq, ?_⟩
  rw [encodeFrame_of_le_txCap hfits, trailer_eq_ofNat]

theorem verifyCrc_iff (f : List Byte) (t0 t1 : Byte) : verifyCrc f t0 t1 = true ↔ crc16 f = pair t1 t0 := beq_iff_eq

theorem verifyCrc_crc16 (f : List Byte) : verifyCrc f (lo (crc16 f)) (hi (crc16 f)) = true := by
  rw [verifyCrc_iff, pair_hi_lo]

/-- Bytes and their own trailer, cut apart again where they were joined, verify (R113). -/
theorem verifyCrc_append_trailer {body : List Byte} {n : Nat} (h : n = body.length) :
    verifyCrc ((body ++ trailer body).take n) ((body ++ trailer body).getD n 0#8)
      ((body ++ trailer body).getD (n + 1) 0#8) = true := by
  subst h
  have hlow : (body ++ trailer body).getD body.length 0#8 = lo (crc16 body) := by simp [List.getD, trailer]
  have hhigh : (body ++ trailer body).getD (body.length + 1) 0#8 = hi (crc16 body) := by simp [List.getD, trailer]
  rw [List.take_left, hlow, hhigh, verifyCrc_crc16]

/-- R133's conditions in one: a frame as long as its length field says, with a service code and a CRC that verifies. -/
theorem decodeFrame_ok {f : List Byte} {n : Nat} (hstp : f.getD 0 0#8 = Config.stp)
    (hfield : (pair (f.getD 4 0#8) (f.getD 5 0#8)).toNat = n + 1) (hlength : f.length = n + 9)
    (hcrc : verifyCrc (f.take (n + 7)) (f.getD (n + 7) 0#8) (f.getD (n + 8) 0#8) = true) :
    decodeFrame f = .ok ⟨f.getD 6 0#8, (f.drop 7).take n, (f.getD 2 0#8).getLsbD 5, f.getD 3 0#8⟩ := by
  have hdata : 6 + (n + 1) = n + 7 := by omega
  have hlast : 7 + (n + 1) = n + 8 := by omega
  unfold decodeFrame
  simp only [hstp, hfield, hlength, hdata, hlast, hcrc]
  simp

/-- Bit 5 of the control byte is the control bit Encode was given (R83). -/
theorem controlByte_getLsbD_five (cb : Bool) : (controlByte cb).getLsbD 5 = cb := by
  cases cb <;> rfl

/-- Settles O12: Encode's frame meets the decoder's conditions, and the fields are read back where Encode put them. -/
theorem frameRoundTrip : Obligations.FrameRoundTrip := by
  intro svc p cb seq hfits
  have hencode := encodeFrame_of_le_txCap hfits svc cb seq
  have hlength := encodeFrame_length svc p cb seq _ hencode
  have hbody := frameBody_length svc p cb seq
  refine ⟨_, hencode, ?_, ?_⟩
  · have hfield : (pair (hi (BitVec.ofNat 16 (p.length + 1))) (lo (BitVec.ofNat 16 (p.length + 1)))).toNat
        = p.length + 1 := by rw [pair_hi_lo, lengthField_toNat hfits]
    have hpayload : (p ++ trailer (frameBody svc p cb seq)).take p.length = p := List.take_left
    calc decodeFrame (frameBody svc p cb seq ++ trailer (frameBody svc p cb seq))
      _ = .ok ⟨svc, (p ++ trailer (frameBody svc p cb seq)).take p.length, (controlByte cb).getLsbD 5, seq⟩ :=
        decodeFrame_ok rfl hfield hlength (verifyCrc_append_trailer hbody.symm)
      _ = .ok ⟨svc, p, cb, seq⟩ := by rw [hpayload, controlByte_getLsbD_five]
  · have hsecond : p.length + 9 - 2 = p.length + 7 := rfl
    have hfirst : p.length + 9 - 1 = p.length + 7 + 1 := rfl
    rw [hlength, hsecond, hfirst, verifyCrc_append_trailer hbody.symm]

end Sys2Proof.Machine
end

section
/-! VALIDATE (41_framer R140, 42_link_sequencer R176, R177). `rx_acc` has taken the header and data bytes, so the CRC that
VALIDATE compares with RXCRC is their `crc16`. -/

namespace Sys2Proof.Machine

theorem step_validate {s : State} {ts : List Turn} (hst : s.st = .validate) (hturn : s.env.turns = .engine :: ts) :
    step s = .next (s.tookTurn ts).validateFrag := by
  simp [step, State.fetch, hturn, State.fetchEngine, hst]

theorem State.CrcInv.fragCrc_eq_crc16 {s : State} (h : s.CrcInv) (hst : s.st = .validate) :
    s.fragCrc = crc16 (s.hdr.bytes ++ s.fragData s.fragLen.toNat) := by
  obtain ⟨-, hacc⟩ := h.inValidate hst
  rw [State.fragCrc, hacc, crc16]

/-- R176's comparison is `verifyCrc` of the fragment and its trailer. -/
theorem State.CrcInv.verifyCrc_iff_fragCrc {s : State} (h : s.CrcInv) (hst : s.st = .validate) :
    verifyCrc (s.hdr.bytes ++ s.fragData s.fragLen.toNat) (lo s.rxCrc) (hi s.rxCrc) = true ↔ s.fragCrc = s.rxCrc := by
  rw [verifyCrc_iff, pair_hi_lo, h.fragCrc_eq_crc16 hst]

/-- Settles O52, by the two branches of VALIDATE: each excludes the other clause's hypothesis. -/
theorem fragmentPassesIffCrcVerifies : Obligations.FragmentPassesIffCrcVerifies := by
  intro s t ts hinv hst hturn hstep
  have hverify := hinv.verifyCrc_iff_fragCrc hst
  have ht : (s.tookTurn ts).validateFrag = t := by simpa [step_validate hst hturn] using hstep
  subst ht
  obtain ⟨hcrc, hpass⟩ | ⟨hcrc, hfail⟩ := (s.tookTurn ts).validateFrag_cases
  · rw [hpass]
    exact ⟨fun _ => rfl, fun hbad => absurd (hverify.mpr hcrc) (by simp [hbad])⟩
  · rw [hfail]
    refine ⟨fun hgood => absurd (hverify.mp hgood) hcrc, fun _ => ⟨rfl, ?_⟩⟩
    have hcode : errorByte .validate .crcMismatch = 0x74#8 := rfl
    rw [← hcode, ← hst]
    rfl

end Sys2Proof.Machine
end

section
/-! The transmit states (42_link_sequencer R164, R165, R178 to R180, R182): what TX_FRAME, TX_NAK and TX_ACK do in their
states, by the transport's answer. -/

namespace Sys2Proof.Machine

theorem exec_txFrame {s : State} {b : Byte} (hst : s.st = .send) (hbyte : s.txFrameByte s.txIdx.toNat = .ok b) :
    exec .txFrame s = .next (s.transmit b State.sentFrameByte) := by
  simp only [exec, execTxFrame, hst, hbyte]

theorem exec_txNak {s : State} (hst : s.st = .sendNak) :
    exec .txNak s = .next (s.transmit Config.nak State.sentNak) := by
  simp only [exec, execTxNak, hst]

theorem exec_txAck {s : State} (hst : s.st = .sendAck) :
    exec .txAck s = .next (s.transmit Config.ack State.sentAck) := by
  simp only [exec, execTxAck, hst]

/-- Error entry with the state named: ERR_CODE is then a fixed byte (60_exceptions R251). -/
theorem State.raiseError_of_st {s : State} {st : SeqState} (hst : s.st = st) (c : ErrorCode) :
    s.raiseError c = { s with errCode := errorByte st c, err := true, st := .idle } := by
  rw [State.raiseError, hst]

theorem State.transmit_ok {s : State} {q : List TxAnswer} (hq : s.env.txQ = .ok :: q) (b : Byte) (k : State → State) :
    s.transmit b k = k (s.txSent b q) := by
  simp only [State.transmit, hq]

/-- A failed transmit is the same error entry in every transmit state: neither the byte nor the way on matters (R182). -/
theorem State.transmit_ioErr {s : State} {st : SeqState} {q : List TxAnswer} (hst : s.st = st)
    (hq : s.env.txQ = .ioErr :: q) (b : Byte) (k : State → State) :
    s.transmit b k =
      { s with errCode := errorByte st .ioError, err := true, st := .idle, env := { s.env with txQ := q } } := by
  have herror : (s.txFailed q).st = st := hst
  simp only [State.transmit, hq, State.raiseError_of_st herror]
  rfl

/-- Settles O34, by R165's test whether the byte sent was the last of TX_PLEN + 9. -/
theorem txFrameSendsNextByte : Obligations.TxFrameSendsNextByte := by
  intro s b q hst hbyte hq
  rw [exec_txFrame hst hbyte, State.transmit_ok hq]
  obtain ⟨hmore, heq⟩ | ⟨hlast, heq⟩ := (s.txSent b q).sentFrameByte_cases <;> rw [heq]
  · exact ⟨fun _ => rfl, fun hend => absurd hmore (Nat.not_lt.mpr hend)⟩
  · exact ⟨fun hleft => absurd hleft (Nat.not_lt.mpr hlast), fun _ => rfl⟩

/-- Settles O36: the failed transmit of each transmit state, with ERR_CODE from that state's code. -/
theorem transmitErrorEndsExchange : Obligations.TransmitErrorEndsExchange := by
  intro s b q hq
  refine ⟨fun hst hbyte => ?_, fun hst => ?_, fun hst => ?_⟩
  · rw [exec_txFrame hst hbyte, State.transmit_ioErr hst hq]
    rfl
  · rw [exec_txNak hst, State.transmit_ioErr hst hq]
    rfl
  · rw [exec_txAck hst, State.transmit_ioErr hst hq]
    rfl

theorem State.sentAck_of_more {s : State} (h : s.ackFinal = false) : s.sentAck = s.beginFragment := by
  simp [State.sentAck, h]

theorem State.sentAck_of_final {s : State} (h : s.ackFinal = true) : s.sentAck = s.complete := if_pos h

/-- Completion of a response without data: there is no STATUS (R180). -/
theorem State.complete_of_empty {s : State} (h : s.rxLen = 0#16) :
    s.complete = { s with
      status := 0x00#8, statusValid := false, rejected := false, ctrlBit := !s.ctrlBit, done := true, st := .idle } := by
  simp [State.complete, h]

/-- Completion of a response whose first byte is `v`: STATUS is `v` (R180). -/
theorem State.complete_of_status {s : State} {v : Byte} (h : s.rxLen ≠ 0#16) (hv : s.rxBuf.read 0 = some v) :
    s.complete = { s with
      status := v, statusValid := true, rejected := decide (v ≠ 0x00#8), ctrlBit := !s.ctrlBit, done := true,
      st := .idle } := by
  have hvalid : (s.rxLen != 0#16) = true := bne_iff_ne.mpr h
  have hrejected : (v != 0x00#8) = decide (v ≠ 0x00#8) := by
    rw [Bool.eq_iff_iff, bne_iff_ne, decide_eq_true_iff]
  rw [State.complete, s.rxRead_written 0 v hv, if_neg h, hvalid, hrejected, Bool.true_and]

/-- Settles O38: `ack_final` chooses between the next fragment and completion, RX_LEN between the two completions. -/
theorem txAckContinuesOrCompletes : Obligations.TxAckContinuesOrCompletes := by
  intro s q hst hq
  rw [exec_txAck hst, State.transmit_ok hq]
  have hmore : (s.txSent Config.ack q).ackFinal = s.ackFinal := rfl
  refine ⟨fun hnext => ?_, fun hfinal hempty => ?_, fun v hfinal hdata hv => ?_⟩
  · rw [State.sentAck_of_more (hmore.trans hnext)]
    rfl
  · have hlen : (s.txSent Config.ack q).rxLen = 0#16 := hempty
    rw [State.sentAck_of_final (hmore.trans hfinal), State.complete_of_empty hlen]
    rfl
  · have hlen : (s.txSent Config.ack q).rxLen ≠ 0#16 := hdata
    have hread : (s.txSent Config.ack q).rxBuf.read 0 = some v := hv
    rw [State.sentAck_of_final (hmore.trans hfinal), State.complete_of_status hlen hread]
    rfl

end Sys2Proof.Machine
end

section
/-! Awaiting ACK (42_link_sequencer R166 to R169): the three instructions of AWAIT_ACK. -/

namespace Sys2Proof.Machine

theorem exec_rxAck {s : State} (hst : s.st = .awaitAck) : exec .rxAck s = .next s.beginFragment := by
  simp only [exec, execRxAck, hst]

theorem exec_rxNak {s : State} (hst : s.st = .awaitAck) : exec .rxNak s = .next (s.raiseError .noAck) := by
  simp only [exec, execRxNak, hst]

theorem exec_rxDiscard {s : State} (hst : s.st = .awaitAck) (b : Byte) :
    exec (.rxDiscard b) s = .next s.discardByte := by
  simp only [exec, execRxDiscard, hst]

/-- Settles O39: an ACK begins a fragment, a NAK is error entry from AWAIT_ACK. -/
theorem ackStartsHeaderNakEnds : Obligations.AckStartsHeaderNakEnds := by
  intro s hst
  rw [exec_rxAck hst, exec_rxNak hst, State.raiseError_of_st hst]
  exact ⟨rfl, rfl⟩

theorem State.nakRoundLeft_of_unbounded {s : State} (h : s.par.nakRoundsMax = none) : s.nakRoundLeft = true := by
  simp [State.nakRoundLeft, h]

theorem State.nakRoundLeft_of_max {s : State} {k : Fin 255} (h : s.par.nakRoundsMax = some k) :
    s.nakRoundLeft = decide (s.nakRounds.toNat < k.val) := by
  simp only [State.nakRoundLeft, h]

theorem State.discardByte_of_lt {s : State} (h : s.discCnt + 1 < s.par.nDiscard) :
    s.discardByte = { s with discCnt := s.discCnt + 1 } := if_pos h

/-- The discard budget is exhausted and a NAK round is left (R169). -/
theorem State.discardByte_of_roundLeft {s : State} (h : s.par.nDiscard ≤ s.discCnt + 1) (hround : s.nakRoundLeft = true) :
    s.discardByte = { s with discCnt := s.discCnt + 1, st := .sendNak } :=
  (if_neg (Nat.not_lt.mpr h)).trans (if_pos hround)

/-- The discard budget and the NAK rounds are exhausted (R169). -/
theorem State.discardByte_of_noRound {s : State} (h : s.par.nDiscard ≤ s.discCnt + 1) (hround : s.nakRoundLeft = false) :
    s.discardByte = State.raiseError { s with discCnt := s.discCnt + 1 } .noAck :=
  (if_neg (Nat.not_lt.mpr h)).trans (if_neg (Bool.eq_false_iff.mp hround))

/-- Settles O40, by R169's two tests: the discard budget, then the NAK rounds. -/
theorem discardCountsTowardNak : Obligations.DiscardCountsTowardNak := by
  intro s b hst
  rw [exec_rxDiscard hst]
  refine ⟨fun hleft => ?_, fun hexhausted => ⟨fun hunbounded => ?_, fun k hmax hround => ?_, fun k hmax hround => ?_⟩⟩
  · rw [State.discardByte_of_lt hleft]
  · rw [State.discardByte_of_roundLeft hexhausted (State.nakRoundLeft_of_unbounded hunbounded)]
  · have hyes : s.nakRoundLeft = true := by rw [State.nakRoundLeft_of_max hmax, decide_eq_true hround]
    rw [State.discardByte_of_roundLeft hexhausted hyes]
  · have hno : s.nakRoundLeft = false := by
      rw [State.nakRoundLeft_of_max hmax, decide_eq_false (Nat.not_lt.mpr hround)]
    have hawait : ({ s with discCnt := s.discCnt + 1 } : State).st = .awaitAck := hst
    rw [State.discardByte_of_noRound hexhausted hno, State.raiseError_of_st hawait]
    rfl

end Sys2Proof.Machine
end

section
/-! Receiving a fragment (42_link_sequencer R172 to R177): RX_FRAME in each of its three states, with the checks of the
sixth header byte (41_framer R136 to R138, R141), then VALIDATE. -/

namespace Sys2Proof.Machine

theorem exec_rxFrame_readHeader {s : State} (hst : s.st = .readHeader) (b : Byte) :
    exec (.rxFrame b) s = .next (s.headerByte b) := by
  simp only [exec, execRxFrame, hst]

theorem exec_rxFrame_readBody {s : State} (hst : s.st = .readBody) (b : Byte) :
    exec (.rxFrame b) s = s.bodyByte b := by
  simp only [exec, execRxFrame, hst]

theorem exec_rxFrame_readCrc {s : State} (hst : s.st = .readCrc) (b : Byte) :
    exec (.rxFrame b) s = .next (s.crcByte b) := by
  simp only [exec, execRxFrame, hst]

/-- The length field as a number, big-endian (41_framer R135). -/
theorem Header.length_toNat (h : Header) : h.length.toNat = h.h4.toNat * 256 + h.h5.toNat := pair_toNat h.h4 h.h5

/-- The sixth header byte is stored like the five before it, then the header is checked (R173). -/
theorem State.headerByte_sixth {s : State} (hidx : s.hdrIdx = 5) (b : Byte) :
    s.headerByte b =
      State.headerDone { s with hdr := { s.hdr with h5 := b }, rxAcc := crcStep s.rxAcc b, hdrIdx := 6 } := by
  have hlast : ¬ s.hdrIdx + 1 < Config.hdrLen := by rw [hidx]; decide
  rw [State.headerByte, if_neg hlast, State.tookHeaderByte, hidx]
  rfl

theorem State.headerDone_of_error {s : State} {c : ErrorCode} (h : s.headerError = some c) :
    s.headerDone = State.raiseError { s with more := s.hdr.moreFlag } c := by
  simp only [State.headerDone, h]

theorem State.headerDone_of_ok {s : State} (h : s.headerError = none) :
    s.headerDone = { s with
      more := s.hdr.moreFlag, fragLen := s.hdr.length
      st := if s.hdr.length = 0#16 then .readCrc else .readBody } := by
  simp only [State.headerDone, h]

/-- Which step ends the header, as one condition after the other on the numbers (R173). -/
theorem State.headerDone_eq {s : State} {len : Nat} (hst : s.st = .readHeader) (hlen : s.hdr.length.toNat = len) :
    s.headerDone =
      if s.hdr.h0 ≠ Config.stp ∨ (s.par.rxLenStrict = true ∧ Config.maxData < len) then
        { s with more := s.hdr.moreFlag, errCode := 0x43#8, err := true, st := .idle }
      else if s.par.reasmCap.toNat < s.rxLen.toNat + len then
        { s with more := s.hdr.moreFlag, errCode := 0x47#8, err := true, st := .idle }
      else
        { s with
          more := s.hdr.moreFlag, fragLen := BitVec.ofNat 16 len
          st := if len = 0 then .readCrc else .readBody } := by
  subst hlen
  have hmore : ({ s with more := s.hdr.moreFlag } : State).st = .readHeader := hst
  obtain ⟨herr, hbad⟩ | ⟨herr, hstp, hshort, hover⟩ | ⟨herr, hstp, hshort, hfits⟩ := s.headerError_cases
  · rw [if_pos hbad, State.headerDone_of_error herr, State.raiseError_of_st hmore]
    rfl
  · rw [if_neg (not_or.mpr ⟨not_not.mpr hstp, hshort⟩), if_pos hover, State.headerDone_of_error herr,
      State.raiseError_of_st hmore]
    rfl
  · have hzero : s.hdr.length.toNat = 0 ↔ s.hdr.length = 0#16 := BitVec.toNat_inj (y := 0#16)
    rw [if_neg (not_or.mpr ⟨not_not.mpr hstp, hshort⟩), if_neg (Nat.not_lt.mpr hfits), State.headerDone_of_ok herr,
      BitVec.ofNat_toNat, BitVec.setWidth_eq]
    simp only [hzero]

/-- Settles O42: the byte is stored, then the header's checks in R141's order decide the step. -/
theorem sixthHeaderByteChecked : Obligations.SixthHeaderByteChecked := by
  intro s b len hst hidx hlen
  have hfield : ({ s.hdr with h5 := b } : Header).length.toNat = len := (Header.length_toNat _).trans hlen.symm
  rw [exec_rxFrame_readHeader hst, State.headerByte_sixth hidx]
  exact congrArg _ (State.headerDone_eq hst hfield)

theorem State.bodyByte_of_lt {s : State} (h : s.bodyIndex < s.par.reasmCap.toNat) (b : Byte) :
    s.bodyByte b = .next { s with
      rxBuf := s.rxBuf.write s.bodyIndex b, rxAcc := crcStep s.rxAcc b, bodyIdx := s.bodyIdx + 1#16
      st := if s.bodyIdx.toNat + 1 < s.fragLen.toNat then .readBody else .readCrc } := if_pos h

/-- Settles O43: the byte's index is inside RX_BUF, and the buffer's law of a read after a write says the rest. -/
theorem bodyByteStored : Obligations.BodyByteStored := by
  intro s b hst hinside
  have hindex : s.bodyIndex < s.par.reasmCap.toNat := hinside
  refine ⟨s.rxBuf.write s.bodyIndex b, ?_, s.rxBuf.read_write_same s.bodyIndex b,
    fun a hother => s.rxBuf.read_write_other s.bodyIndex a b hother⟩
  rw [exec_rxFrame_readBody hst, State.bodyByte_of_lt hindex]

theorem State.crcByte_first {s : State} (h : s.crcIdx = 0) (b : Byte) :
    s.crcByte b = { s with rxCrc := setLo s.rxCrc b, crcIdx := 1 } := if_pos h

theorem State.crcByte_second {s : State} (h : s.crcIdx = 1) (b : Byte) :
    s.crcByte b = { s with rxCrc := setHi s.rxCrc b, crcIdx := 2, st := .validate } :=
  if_neg (by rw [h]; decide)

/-- Settles O44: the two trailer bytes are the `_LO` and the `_HI` write of RXCRC. -/
theorem trailerBytesLowFirst : Obligations.TrailerBytesLowFirst := by
  intro s b hst
  rw [exec_rxFrame_readCrc hst]
  refine ⟨fun hlow => ?_, fun hhigh => ?_⟩
  · rw [State.crcByte_first hlow, setLo_eq]
  · rw [State.crcByte_second hhigh, setHi_eq]

/-- Settles O45, by the two branches of VALIDATE; the mismatch is error entry from VALIDATE. -/
theorem validateCommitsOrMismatch : Obligations.ValidateCommitsOrMismatch := by
  intro s ts hst hturn
  rw [step_validate hst hturn]
  obtain ⟨hcrc, hcommit⟩ | ⟨hcrc, hmismatch⟩ := (s.tookTurn ts).validateFrag_cases
  · rw [hcommit]
    exact ⟨fun _ => rfl, fun hne => absurd hcrc hne⟩
  · have hfrom : ({ s.tookTurn ts with calcCrc := (s.tookTurn ts).fragCrc } : State).st = .validate := hst
    rw [hmismatch, State.raiseError_of_st hfrom]
    exact ⟨fun heq => absurd heq hcrc, fun _ => rfl⟩

end Sys2Proof.Machine
end

section
/-! The transport's two failures of a receive (42_link_sequencer R170, R181): one error entry for all receive states, with
the state's code in ERR_CODE. -/

namespace Sys2Proof.Machine

/-- In each receive state the engine's turn is a receive (R160). -/
theorem State.fetchEngine_of_rxReq {s : State} (h : s.rxReq = true) : s.fetchEngine = s.fetchRx := by
  cases hst : s.st with
  | awaitAck => simp only [State.fetchEngine, hst]
  | readHeader => simp only [State.fetchEngine, hst]
  | readBody => simp only [State.fetchEngine, hst]
  | readCrc => simp only [State.fetchEngine, hst]
  | idle => simp [State.rxReq, hst] at h
  | send => simp [State.rxReq, hst] at h
  | sendNak => simp [State.rxReq, hst] at h
  | validate => simp [State.rxReq, hst] at h
  | sendAck => simp [State.rxReq, hst] at h

theorem step_receive {s : State} {ts : List Turn} (hreq : s.rxReq = true) (hturn : s.env.turns = .engine :: ts) :
    step s = (s.tookTurn ts).fetchRx.result := by
  have hfetch : s.fetch = (s.tookTurn ts).fetchEngine := by simp only [State.fetch, hturn]
  have htook : (s.tookTurn ts).rxReq = true := hreq
  rw [step_eq, hfetch, State.fetchEngine_of_rxReq htook]

theorem State.fetchRx_timeout {s : State} {q : List RxAnswer} (h : s.env.rxQ = .timeout :: q) :
    s.fetchRx = .moved ((s.tookRx q).raiseError .timeout) := by
  simp only [State.fetchRx, h]

theorem State.fetchRx_ioErr {s : State} {q : List RxAnswer} (h : s.env.rxQ = .ioErr :: q) :
    s.fetchRx = .moved ((s.tookRx q).raiseError .ioError) := by
  simp only [State.fetchRx, h]

/-- Settles O46: the two failures in any receive state, then the codes of the four states (60_exceptions R252). -/
theorem receiveFailuresEndExchange : Obligations.ReceiveFailuresEndExchange := by
  intro s ts q p hp hst hturn
  have hcodes : (p.1 = .awaitAck ∨ p.1 = .readHeader ∨ p.1 = .readBody ∨ p.1 = .readCrc) ∧
      p.2.1 = errorByte p.1 .timeout ∧ p.2.2 = errorByte p.1 .ioError := by
    clear hst hturn
    revert p
    decide
  obtain ⟨hstates, htimeout, hioErr⟩ := hcodes
  have hreq : s.rxReq = true := by simpa [State.rxReq, hst, or_assoc] using hstates
  have hfrom : ((s.tookTurn ts).tookRx q).st = p.1 := hst
  rw [step_receive hreq hturn, htimeout, hioErr]
  refine ⟨fun hq => ?_, fun hq => ?_⟩
  · have hanswer : (s.tookTurn ts).env.rxQ = .timeout :: q := hq
    rw [State.fetchRx_timeout hanswer, State.raiseError_of_st hfrom]
    rfl
  · have hanswer : (s.tookTurn ts).env.rxQ = .ioErr :: q := hq
    rw [State.fetchRx_ioErr hanswer, State.raiseError_of_st hfrom]
    rfl

end Sys2Proof.Machine
end

section
/-! The reserved command codes (43_host_interface R221): the rows of the reserved ranges, that the decoder gives one of
them for each code above TCK_INIT, and what each of them does. -/

namespace Sys2Proof.Machine

/-- A CMD_RESERVED row of the opcode table, with the low bits of its code. -/
inductive ReservedCommand : Instr → Prop where
  | from06 (low : BitVec 1) : ReservedCommand (.cmdReserved06 low)
  | from08 (low : BitVec 3) : ReservedCommand (.cmdReserved08 low)
  | from10 (low : BitVec 4) : ReservedCommand (.cmdReserved10 low)
  | from20 (low : BitVec 5) : ReservedCommand (.cmdReserved20 low)
  | from40 (low : BitVec 6) : ReservedCommand (.cmdReserved40 low)
  | from80 (low : BitVec 7) : ReservedCommand (.cmdReserved80 low)

/-- No reserved row looks at its code's bits or at the state (R221). -/
theorem ReservedCommand.exec_eq_ignored {i : Instr} (h : ReservedCommand i) (s : State) : exec i s = .next s.ignored := by
  cases h with
  | from06 low => rfl
  | from08 low => rfl
  | from10 low => rfl
  | from20 low => rfl
  | from40 low => rfl
  | from80 low => rfl

/-- Above the last command, TCK_INIT at 0x05, a code matches no command: only its range counts. -/
theorem decodeCommand_above_commands {c : Byte} (h : 6 ≤ c.toNat) :
    decodeCommand c =
      if c.toNat < 0x08 then .cmdReserved06 (c.extractLsb' 0 1)
      else if c.toNat < 0x10 then .cmdReserved08 (c.extractLsb' 0 3)
      else if c.toNat < 0x20 then .cmdReserved10 (c.extractLsb' 0 4)
      else if c.toNat < 0x40 then .cmdReserved20 (c.extractLsb' 0 5)
      else if c.toNat < 0x80 then .cmdReserved40 (c.extractLsb' 0 6)
      else .cmdReserved80 (c.extractLsb' 0 7) := by
  unfold decodeCommand
  split
  any_goals omega
  rfl

theorem decodeCommand_reserved {c : Byte} (h : 6 ≤ c.toNat) : ReservedCommand (decodeCommand c) := by
  rw [decodeCommand_above_commands h]
  split_ifs
  · exact .from06 _
  · exact .from08 _
  · exact .from10 _
  · exact .from20 _
  · exact .from40 _
  · exact .from80 _

/-- Settles O19: every code above the commands decodes to a reserved row, and every reserved row only sets IGN. -/
theorem reservedCommandsSetIgn : Obligations.ReservedCommandsSetIgn := by
  intro s
  have hdecoded : ∀ c : Byte, 6 ≤ c.toNat →
      ∃ i, decode ⟨.hostWr, [c, 0x00#8]⟩ = .ok i ∧ exec i s = .next s.ignored :=
    fun c hc => ⟨decodeCommand c, rfl, (decodeCommand_reserved hc).exec_eq_ignored s⟩
  exact ⟨hdecoded,
    fun low => (ReservedCommand.from06 low).exec_eq_ignored s,
    fun low => (ReservedCommand.from08 low).exec_eq_ignored s,
    fun low => (ReservedCommand.from10 low).exec_eq_ignored s,
    fun low => (ReservedCommand.from20 low).exec_eq_ignored s,
    fun low => (ReservedCommand.from40 low).exec_eq_ignored s,
    fun low => (ReservedCommand.from80 low).exec_eq_ignored s⟩

end Sys2Proof.Machine
end

section
/-! The two data ports (43_host_interface R229, R233): TX_DATA stores at TX_PTR, RX_DATA reads at RX_PTR, each with its
sticky flag past the end. -/

namespace Sys2Proof.Machine

theorem State.txGroup_of_idle {s : State} (h : s.st = .idle) (k : State) : s.txGroup k = k := by
  rw [State.txGroup, s.busy_eq_false.mpr h]
  rfl

theorem State.txGroup_of_busy {s : State} (h : s.st ≠ .idle) (k : State) : s.txGroup k = s.ignored :=
  if_pos (s.busy_eq_true.mpr h)

theorem exec_wrTxData (s : State) (d : Byte) : exec (.wrTxData d) s = .next (s.txGroup (s.pushTx d)) := rfl

theorem State.pushTx_of_lt {s : State} (h : s.txPtr.toNat < Config.txCap) (d : Byte) :
    s.pushTx d = { s with txBuf := s.txBuf.write s.txPtr.toNat d, txPtr := s.txPtr + 1#16 } :=
  if_pos h

theorem State.pushTx_of_le {s : State} (h : Config.txCap ≤ s.txPtr.toNat) (d : Byte) :
    s.pushTx d = { s with txOvf := true } :=
  if_neg (Nat.not_lt.mpr h)

/-- Settles O29: a TX-group write, whose two idle forms are those of the push; the stored byte by the buffer's read
rules. -/
theorem txDataStoresAtPointer : Obligations.TxDataStoresAtPointer := by
  intro s d
  rw [exec_wrTxData]
  refine ⟨fun hbusy => ?_, fun hidle hroom => ?_, fun hidle hfull => ?_⟩
  · rw [State.txGroup_of_busy hbusy]
    rfl
  · rw [State.txGroup_of_idle hidle, State.pushTx_of_lt hroom]
    exact ⟨s.txBuf.write s.txPtr.toNat d, rfl, s.txBuf.read_write_same _ d,
      fun a ha => s.txBuf.read_write_other _ a d ha⟩
  · rw [State.txGroup_of_idle hidle, State.pushTx_of_le hfull]

theorem exec_rdRxData_of_lt {s : State} (h : s.rxPtr.toNat < s.rxLen.toNat) :
    exec .rdRxData s = .next { s with rdata := s.rxRead s.rxPtr.toNat, rxPtr := s.rxPtr + 1#16 } :=
  if_pos h

theorem exec_rdRxData_of_le {s : State} (h : s.rxLen.toNat ≤ s.rxPtr.toNat) :
    exec .rdRxData s = .next { s with rdata := 0x00#8, rxUnf := true } :=
  if_neg (Nat.not_lt.mpr h)

/-- Settles O30: the byte returned is RX_BUF's where the engine has written it. -/
theorem rxDataReadsAtPointer : Obligations.RxDataReadsAtPointer := by
  intro s
  refine ⟨fun hdata => ?_, exec_rdRxData_of_le⟩
  exact ⟨s.rxRead s.rxPtr.toNat, exec_rdRxData_of_lt hdata, s.rxRead_written s.rxPtr.toNat⟩

end Sys2Proof.Machine
end

section
/-! The commands (43_host_interface R214 to R220): what each does, by whether the block is busy. -/

namespace Sys2Proof.Machine

theorem exec_cmdNop (s : State) : exec .cmdNop s = .next s := rfl

theorem exec_cmdCrcInit (s : State) : exec .cmdCrcInit s = .next { s with crcAcc := 0xFFFF#16 } := rfl

theorem exec_cmdTckInit (s : State) : exec .cmdTckInit s = .next { s with tckSum := 0x00#8 } := rfl

/-- Settles O15: the meanings of the three commands ask nothing of the state. -/
theorem plainCommands : Obligations.PlainCommands :=
  fun s => ⟨exec_cmdNop s, exec_cmdCrcInit s, exec_cmdTckInit s⟩

theorem exec_cmdExchange_of_busy {s : State} (h : s.st ≠ .idle) : exec .cmdExchange s = .next s.ignored :=
  if_pos (s.busy_eq_true.mpr h)

theorem exec_cmdExchange_of_le_txCap {s : State} (hidle : s.st = .idle) (hfits : s.txPlen.toNat ≤ Config.txCap) :
    exec .cmdExchange s = .next { s.clearOutcome with txIdx := 0#14, st := .send } := by
  simp only [exec, execCmdExchange, s.busy_eq_false.mpr hidle, Bool.false_eq_true, if_false,
    if_neg (Nat.not_lt.mpr hfits)]

theorem exec_cmdExchange_of_txCap_lt {s : State} (hidle : s.st = .idle) (hlong : Config.txCap < s.txPlen.toNat) :
    exec .cmdExchange s = .next (s.clearOutcome.raiseError .lengthError) := by
  simp only [exec, execCmdExchange, s.busy_eq_false.mpr hidle, Bool.false_eq_true, if_false, if_pos hlong]

/-- An error raised in IDLE leaves the engine where it is (60_exceptions R251). -/
theorem State.raiseError_of_idle {s : State} (h : s.st = .idle) (c : ErrorCode) :
    s.raiseError c = { s with errCode := errorByte .idle c, err := true } := by
  rw [State.raiseError, h]

/-- Settles O16: busy or not, and while not busy by R131's limit on the payload. -/
theorem exchangeAcceptedOrIgnored : Obligations.ExchangeAcceptedOrIgnored := by
  intro s
  refine ⟨exec_cmdExchange_of_le_txCap, fun hidle hlong => ?_, exec_cmdExchange_of_busy⟩
  have hcleared : s.clearOutcome.st = .idle := hidle
  rw [exec_cmdExchange_of_txCap_lt hidle hlong, State.raiseError_of_idle hcleared]
  rfl

theorem exec_cmdSessionInit_of_busy {s : State} (h : s.st ≠ .idle) : exec .cmdSessionInit s = .next s.ignored :=
  if_pos (s.busy_eq_true.mpr h)

theorem exec_cmdSessionInit_of_idle {s : State} (h : s.st = .idle) :
    exec .cmdSessionInit s = .next { s.clearFlags with ctrlBit := false, errCode := 0x00#8 } := by
  simp only [exec, execCmdSessionInit, s.busy_eq_false.mpr h, Bool.false_eq_true, if_false]

/-- Settles O17: the accepted form is CLR_FLAGS with CTRL_BIT and ERR_CODE cleared too. -/
theorem sessionInitClears : Obligations.SessionInitClears :=
  fun _ => ⟨exec_cmdSessionInit_of_idle, exec_cmdSessionInit_of_busy⟩

theorem exec_cmdClrFlags (s : State) : exec .cmdClrFlags s = .next s.clearFlags := rfl

/-- Settles O18: without DONE and ERR the interrupt level is low (60_exceptions R257). -/
theorem clearFlagsKeepsErrorCode : Obligations.ClearFlagsKeepsErrorCode :=
  fun s => ⟨s.clearFlags, exec_cmdClrFlags s, s.clearFlags_irq, rfl⟩

end Sys2Proof.Machine
end

section
/-! The reads of the status registers and the accesses to write-only and read-only addresses (43_host_interface R210 to
R212, R222 to R224, R234 to R240). -/

namespace Sys2Proof.Machine

theorem State.irq_eq_true (s : State) : s.irq = true ↔ s.irqEn = true ∧ (s.done = true ∨ s.err = true) := by
  simp [State.irq]

/-- CRC_OK compares the result register of the unit with CRC_CHK (40_checksums R119). -/
theorem State.crcOk_eq_true (s : State) : s.crcOk = true ↔ s.crcAcc ^^^ 0xFFFF#16 = s.crcChk :=
  beq_iff_eq

/-- A one-bit flag shifted to its place among the lower flags is the flag appended in front of them. -/
theorem flagByte_eq_or (b7 b6 b5 b4 b3 b2 b1 b0 : Bool) :
    flagByte b7 b6 b5 b4 b3 b2 b1 b0 =
      ((if b7 = true then 1#8 else 0#8) <<< 7) ||| ((if b6 = true then 1#8 else 0#8) <<< 6) |||
      ((if b5 = true then 1#8 else 0#8) <<< 5) ||| ((if b4 = true then 1#8 else 0#8) <<< 4) |||
      ((if b3 = true then 1#8 else 0#8) <<< 3) ||| ((if b2 = true then 1#8 else 0#8) <<< 2) |||
      ((if b1 = true then 1#8 else 0#8) <<< 1) ||| (if b0 = true then 1#8 else 0#8) := by
  revert b7 b6 b5 b4 b3 b2 b1 b0
  decide

/-- A byte of four flags: the bits above them are 0 (10_state R38). -/
theorem flagByte_low_eq_or (b3 b2 b1 b0 : Bool) :
    flagByte false false false false b3 b2 b1 b0 =
      ((if b3 = true then 1#8 else 0#8) <<< 3) ||| ((if b2 = true then 1#8 else 0#8) <<< 2) |||
      ((if b1 = true then 1#8 else 0#8) <<< 1) ||| (if b0 = true then 1#8 else 0#8) := by
  revert b3 b2 b1 b0
  decide

theorem exec_rdStat (s : State) : exec .rdStat s = .next (s.returns s.stat) := rfl

theorem exec_rdFlags2 (s : State) : exec .rdFlags2 s = .next (s.returns s.flags2) := rfl

/-- Settles O20: IRQ, BUSY and CRC_OK are the model's computed flags, and each byte is its flags in their places. -/
theorem flagRegisterReads : Obligations.FlagRegisterReads := by
  intro s
  simp only [← State.irq_eq_true, ← State.busy_eq_true, ← State.crcOk_eq_true]
  rw [exec_rdStat, exec_rdFlags2, State.stat, State.flags2, ← flagByte_eq_or, ← flagByte_low_eq_or]
  exact ⟨rfl, rfl⟩

/-- Settles O21: each read answers `State.returns` of its register, `_LO` and `_HI` as numbers. -/
theorem statusRegisterReads : Obligations.StatusRegisterReads := by
  intro s
  simp only [← lo_eq_ofNat, ← hi_eq_ofNat]
  exact ⟨rfl, rfl, rfl, rfl, rfl, rfl, rfl, rfl, rfl, rfl, rfl, rfl, rfl, rfl, rfl⟩

/-- Settles O23: the read of each write-only address is `State.returns 0x00`. -/
theorem writeOnlyReadsZero : Obligations.WriteOnlyReadsZero :=
  fun _ => ⟨rfl, rfl, rfl, rfl⟩

/-- Settles O24: the meaning of each of the 22 writes answers the state it is given. -/
theorem readOnlyWritesIgnored : Obligations.ReadOnlyWritesIgnored :=
  fun _ _ =>
    ⟨rfl, rfl, rfl, rfl, rfl, rfl, rfl, rfl, rfl, rfl, rfl, rfl, rfl, rfl, rfl, rfl, rfl, rfl, rfl, rfl, rfl, rfl⟩

end Sys2Proof.Machine
end

section
/-! Decoding and encoding (30_encoding) are each other's inverse. A row's operand bits `low` stand under its fixed bits: a
byte of a reserved range is that range's upper bits with the low bits appended, and the upper bits say which range it is. -/

namespace Sys2Proof.Machine

/-- Appending is placing the upper bits above the low bits. -/
theorem append_toNat {m n : Nat} (p : BitVec m) (low : BitVec n) : (p ++ low).toNat = p.toNat * 2 ^ n + low.toNat := by
  rw [BitVec.toNat_append, Nat.shiftLeft_eq, Nat.mul_comm, ← Nat.two_pow_add_eq_or_of_lt low.isLt]

/-- A byte whose upper bits are `p` is `p` with its own low bits appended. -/
theorem append_extractLsb'_eq {m n : Nat} {p : BitVec m} {b : BitVec (m + n)} (h : b.toNat / 2 ^ n = p.toNat) :
    p ++ b.extractLsb' 0 n = b := by
  apply BitVec.eq_of_toNat_eq
  rw [append_toNat, BitVec.extractLsb'_toNat, Nat.shiftRight_zero, ← h]
  exact Nat.div_add_mod' b.toNat (2 ^ n)

/-- The bytes whose upper bits are `p` are a range. -/
theorem append_range {m n : Nat} (p : BitVec m) (low : BitVec n) :
    p.toNat * 2 ^ n ≤ (p ++ low).toNat ∧ (p ++ low).toNat < (p.toNat + 1) * 2 ^ n := by
  have := low.isLt
  rw [append_toNat, Nat.add_mul]
  omega

/-! The codes and addresses of each reserved range. -/

theorem decodeCommand_reserved06 (low : BitVec 1) : decodeCommand (0x03#7 ++ low) = .cmdReserved06 low := by
  obtain ⟨hge, hlt⟩ : 0x06 ≤ (0x03#7 ++ low).toNat ∧ (0x03#7 ++ low).toNat < 0x08 := append_range 0x03#7 low
  simp (disch := omega) only [decodeCommand_above_commands, if_pos, BitVec.extractLsb'_append_eq_right]

theorem decodeCommand_reserved08 (low : BitVec 3) : decodeCommand (0x01#5 ++ low) = .cmdReserved08 low := by
  obtain ⟨hge, hlt⟩ : 0x08 ≤ (0x01#5 ++ low).toNat ∧ (0x01#5 ++ low).toNat < 0x10 := append_range 0x01#5 low
  simp (disch := omega) only [decodeCommand_above_commands, if_pos, if_neg, BitVec.extractLsb'_append_eq_right]

theorem decodeCommand_reserved10 (low : BitVec 4) : decodeCommand (0x01#4 ++ low) = .cmdReserved10 low := by
  obtain ⟨hge, hlt⟩ : 0x10 ≤ (0x01#4 ++ low).toNat ∧ (0x01#4 ++ low).toNat < 0x20 := append_range 0x01#4 low
  simp (disch := omega) only [decodeCommand_above_commands, if_pos, if_neg, BitVec.extractLsb'_append_eq_right]

theorem decodeCommand_reserved20 (low : BitVec 5) : decodeCommand (0x01#3 ++ low) = .cmdReserved20 low := by
  obtain ⟨hge, hlt⟩ : 0x20 ≤ (0x01#3 ++ low).toNat ∧ (0x01#3 ++ low).toNat < 0x40 := append_range 0x01#3 low
  simp (disch := omega) only [decodeCommand_above_commands, if_pos, if_neg, BitVec.extractLsb'_append_eq_right]

theorem decodeCommand_reserved40 (low : BitVec 6) : decodeCommand (0x01#2 ++ low) = .cmdReserved40 low := by
  obtain ⟨hge, hlt⟩ : 0x40 ≤ (0x01#2 ++ low).toNat ∧ (0x01#2 ++ low).toNat < 0x80 := append_range 0x01#2 low
  simp (disch := omega) only [decodeCommand_above_commands, if_pos, if_neg, BitVec.extractLsb'_append_eq_right]

theorem decodeCommand_reserved80 (low : BitVec 7) : decodeCommand (0x01#1 ++ low) = .cmdReserved80 low := by
  obtain ⟨hge, hlt⟩ : 0x80 ≤ (0x01#1 ++ low).toNat ∧ (0x01#1 ++ low).toNat < 0x100 := append_range 0x01#1 low
  simp (disch := omega) only [decodeCommand_above_commands, if_neg, BitVec.extractLsb'_append_eq_right]

theorem decode_reserved26 (low : BitVec 1) (d : Byte) :
    decodeRead (0x13#7 ++ low) = .rdReserved26 low ∧ decodeWrite (0x13#7 ++ low) d = .wrReserved26 low d := by
  obtain ⟨hge, hlt⟩ : 0x26 ≤ (0x13#7 ++ low).toNat ∧ (0x13#7 ++ low).toNat < 0x28 := append_range 0x13#7 low
  simp (disch := omega) only [decodeRead_above_registers, decodeWrite_above_registers, if_pos,
    BitVec.extractLsb'_append_eq_right, and_self]

theorem decode_reserved28 (low : BitVec 3) (d : Byte) :
    decodeRead (0x05#5 ++ low) = .rdReserved28 low ∧ decodeWrite (0x05#5 ++ low) d = .wrReserved28 low d := by
  obtain ⟨hge, hlt⟩ : 0x28 ≤ (0x05#5 ++ low).toNat ∧ (0x05#5 ++ low).toNat < 0x30 := append_range 0x05#5 low
  simp (disch := omega) only [decodeRead_above_registers, decodeWrite_above_registers, if_pos, if_neg,
    BitVec.extractLsb'_append_eq_right, and_self]

theorem decode_reserved30 (low : BitVec 4) (d : Byte) :
    decodeRead (0x03#4 ++ low) = .rdReserved30 low ∧ decodeWrite (0x03#4 ++ low) d = .wrReserved30 low d := by
  obtain ⟨hge, hlt⟩ : 0x30 ≤ (0x03#4 ++ low).toNat ∧ (0x03#4 ++ low).toNat < 0x40 := append_range 0x03#4 low
  simp (disch := omega) only [decodeRead_above_registers, decodeWrite_above_registers, if_pos, if_neg,
    BitVec.extractLsb'_append_eq_right, and_self]

theorem decode_reserved40 (low : BitVec 6) (d : Byte) :
    decodeRead (0x01#2 ++ low) = .rdReserved40 low ∧ decodeWrite (0x01#2 ++ low) d = .wrReserved40 low d := by
  obtain ⟨hge, hlt⟩ : 0x40 ≤ (0x01#2 ++ low).toNat ∧ (0x01#2 ++ low).toNat < 0x80 := append_range 0x01#2 low
  simp (disch := omega) only [decodeRead_above_registers, decodeWrite_above_registers, if_pos, if_neg,
    BitVec.extractLsb'_append_eq_right, and_self]

theorem decode_reserved80 (low : BitVec 7) (d : Byte) :
    decodeRead (0x01#1 ++ low) = .rdReserved80 low ∧ decodeWrite (0x01#1 ++ low) d = .wrReserved80 low d := by
  obtain ⟨hge, hlt⟩ : 0x80 ≤ (0x01#1 ++ low).toNat ∧ (0x01#1 ++ low).toNat < 0x100 := append_range 0x01#1 low
  simp (disch := omega) only [decodeRead_above_registers, decodeWrite_above_registers, if_neg,
    BitVec.extractLsb'_append_eq_right, and_self]

theorem decode_writeWord (a d : Byte) : decode (writeWord a d) = .ok (decodeWrite a d) := rfl

theorem decode_readWord (a : Byte) : decode (readWord a) = .ok (decodeRead a) := rfl

/-- Settles O1, by the instruction: a reserved row by its range, a discarded byte by R91's precedence, and every other row
because the decoder's match finds its code. -/
theorem decodeInvertsEncode : Obligations.DecodeInvertsEncode := by
  intro i hwf
  cases i with
  | rxDiscard b =>
    have hother : b ≠ Config.ack ∧ b ≠ Config.nak := by simpa [Instr.wf] using hwf
    exact congrArg _ (decodeAwait_other hother.1 hother.2)
  | cmdReserved06 low => exact congrArg _ (decodeCommand_reserved06 low)
  | cmdReserved08 low => exact congrArg _ (decodeCommand_reserved08 low)
  | cmdReserved10 low => exact congrArg _ (decodeCommand_reserved10 low)
  | cmdReserved20 low => exact congrArg _ (decodeCommand_reserved20 low)
  | cmdReserved40 low => exact congrArg _ (decodeCommand_reserved40 low)
  | cmdReserved80 low => exact congrArg _ (decodeCommand_reserved80 low)
  | rdReserved26 low => exact congrArg _ (decode_reserved26 low 0#8).1
  | wrReserved26 low d => exact congrArg _ (decode_reserved26 low d).2
  | rdReserved28 low => exact congrArg _ (decode_reserved28 low 0#8).1
  | wrReserved28 low d => exact congrArg _ (decode_reserved28 low d).2
  | rdReserved30 low => exact congrArg _ (decode_reserved30 low 0#8).1
  | wrReserved30 low d => exact congrArg _ (decode_reserved30 low d).2
  | rdReserved40 low => exact congrArg _ (decode_reserved40 low 0#8).1
  | wrReserved40 low d => exact congrArg _ (decode_reserved40 low d).2
  | rdReserved80 low => exact congrArg _ (decode_reserved80 low 0#8).1
  | wrReserved80 low d => exact congrArg _ (decode_reserved80 low d).2
  | _ => rfl

/-! From word to instruction and back. -/

theorem encode_decodeCommand (c : Byte) : encode (decodeCommand c) = writeWord 0x00#8 c := by
  by_cases h : 6 ≤ c.toNat
  · rw [decodeCommand_above_commands h]
    split_ifs
    all_goals exact congrArg (writeWord 0x00#8) (append_extractLsb'_eq (by simp; omega))
  · have hcode : c = 0#8 ∨ c = 1#8 ∨ c = 2#8 ∨ c = 3#8 ∨ c = 4#8 ∨ c = 5#8 := by bv_omega
    obtain rfl | rfl | rfl | rfl | rfl | rfl := hcode <;> rfl

/-- The registers' addresses one by one: HDR5 at 0x25 is the last. -/
theorem address_cases {P : Byte → Prop} (habove : ∀ a : Byte, 0x26 ≤ a.toNat → P a)
    (hregister : ∀ k : Fin 0x26, P (BitVec.ofNat 8 k)) (a : Byte) : P a := by
  by_cases h : 0x26 ≤ a.toNat
  · exact habove a h
  · simpa using hregister ⟨a.toNat, by omega⟩

theorem encode_decodeWrite (a d : Byte) : encode (decodeWrite a d) = writeWord a d := by
  refine address_cases (P := fun a => encode (decodeWrite a d) = writeWord a d) (fun a h => ?_) (fun k => ?_) a
  · rw [decodeWrite_above_registers d h]
    split_ifs
    all_goals exact congrArg (writeWord · d) (append_extractLsb'_eq (by simp; omega))
  · fin_cases k
    · exact encode_decodeCommand d
    all_goals rfl

theorem encode_decodeRead (a : Byte) : encode (decodeRead a) = readWord a := by
  refine address_cases (P := fun a => encode (decodeRead a) = readWord a) (fun a h => ?_) (fun k => ?_) a
  · rw [decodeRead_above_registers h]
    split_ifs
    all_goals exact congrArg readWord (append_extractLsb'_eq (by simp; omega))
  · fin_cases k <;> rfl

/-- The only ill-formed instructions are of the wire (30_encoding R91). -/
theorem wf_of_host {i : Instr} (h : onWire i = false) : i.wf = true := by
  cases i with
  | rxDiscard b => cases h
  | _ => rfl

/-- Settles O2: the decoder answers a host instruction for every address, which encodes to the address and data given. -/
theorem everyHostAccessDecodes : Obligations.EveryHostAccessDecodes :=
  ⟨fun a d => ⟨decodeWrite a d, rfl, wf_of_host (decodeWrite_host a d), encode_decodeWrite a d⟩,
    fun a _ => ⟨decodeRead a, rfl, wf_of_host (decodeRead_host a), encode_decodeRead a⟩⟩

end Sys2Proof.Machine
end

section
/-! The invariant of every reachable state (10_state R44), in three layers: what holds of the registers in every sequencer
state, what an exchange that goes on adds, and what each sequencer state says of the internal registers it reads. A step
touches few of them, so each transition names only the clauses it has to argue for. -/

namespace Sys2Proof.Machine

/-- The clauses of `State.Inv` that no sequencer state guards. -/
structure State.RegInv (s : State) : Prop where
  params : s.par.ok = true
  doneErr : (s.done && s.err) = false
  errLegal : s.errCode ∈ legalErrCodes ∧ (s.err = true → s.errCode ≠ 0x00#8)
  rejectedIff : s.rejected = (s.statusValid && s.status != 0x00#8)
  statusZero : s.statusValid = false → s.status = 0x00#8
  rxLenCap : s.rxLen.toNat ≤ s.par.reasmCap.toNat
  txBufOk : s.txBuf.wf = true ∧ s.txBuf.below Config.txCap = true
  rxBufOk : s.rxBuf.wf = true ∧ s.rxBuf.below s.par.reasmCap.toNat = true
  committed : s.rxBuf.written 0 s.rxLen.toNat

/-- The clauses of `State.Inv` for an exchange that goes on. -/
structure State.BusyInv (s : State) : Prop where
  done : s.done = false
  err : s.err = false
  errCode : s.errCode = 0x00#8
  plen : s.txPlen.toNat ≤ Config.txCap

/-- The current fragment fits in RX_BUF (R138). -/
def State.FragFits (s : State) : Prop := s.rxLen.toNat + s.fragLen.toNat ≤ s.par.reasmCap.toNat

/-- The first `n` data bytes of the current fragment are stored (R174). -/
def State.FragStored (s : State) (n : Nat) : Prop := s.rxBuf.written s.rxLen.toNat (s.rxLen.toNat + n)

/-- What `State.Inv` says of the internal registers in each sequencer state. -/
def State.SeqInv (s : State) : Prop :=
  match s.st with
  | .idle => True
  | .send => s.txIdx.toNat < s.frameLen
  | .awaitAck => s.discCnt < s.par.nDiscard ∧ ∀ k, s.par.nakRoundsMax = some k → s.nakRounds.toNat ≤ k.val
  | .sendNak => ∀ k, s.par.nakRoundsMax = some k → s.nakRounds.toNat < k.val
  | .readHeader => s.hdrIdx < Config.hdrLen ∧ s.bodyIdx = 0#16 ∧ s.crcIdx = 0
  | .readBody => s.bodyIdx.toNat < s.fragLen.toNat ∧ s.FragFits ∧ s.crcIdx = 0 ∧ s.FragStored s.bodyIdx.toNat
  | .readCrc => s.crcIdx < Config.crcLen ∧ s.FragFits ∧ s.FragStored s.fragLen.toNat
  | .validate => s.FragFits ∧ s.FragStored s.fragLen.toNat
  | .sendAck => True

theorem State.SeqInv.of_idle {s : State} (h : s.st = .idle) : s.SeqInv := by simp only [State.SeqInv, h]

theorem State.SeqInv.of_send {s : State} (h : s.st = .send) (hidx : s.txIdx.toNat < s.frameLen) : s.SeqInv := by
  simpa only [State.SeqInv, h] using hidx

theorem State.SeqInv.of_awaitAck {s : State} (h : s.st = .awaitAck) (hdisc : s.discCnt < s.par.nDiscard)
    (hrounds : ∀ k, s.par.nakRoundsMax = some k → s.nakRounds.toNat ≤ k.val) : s.SeqInv := by
  simpa only [State.SeqInv, h] using ⟨hdisc, hrounds⟩

theorem State.SeqInv.of_sendNak {s : State} (h : s.st = .sendNak)
    (hrounds : ∀ k, s.par.nakRoundsMax = some k → s.nakRounds.toNat < k.val) : s.SeqInv := by
  simpa only [State.SeqInv, h] using hrounds

theorem State.SeqInv.of_readHeader {s : State} (h : s.st = .readHeader) (hidx : s.hdrIdx < Config.hdrLen)
    (hbody : s.bodyIdx = 0#16) (hcrc : s.crcIdx = 0) : s.SeqInv := by
  simpa only [State.SeqInv, h] using ⟨hidx, hbody, hcrc⟩

theorem State.SeqInv.of_readBody {s : State} (h : s.st = .readBody) (hidx : s.bodyIdx.toNat < s.fragLen.toNat)
    (hfits : s.FragFits) (hcrc : s.crcIdx = 0) (hstored : s.FragStored s.bodyIdx.toNat) : s.SeqInv := by
  simpa only [State.SeqInv, h] using ⟨hidx, hfits, hcrc, hstored⟩

theorem State.SeqInv.of_readCrc {s : State} (h : s.st = .readCrc) (hcrc : s.crcIdx < Config.crcLen) (hfits : s.FragFits)
    (hstored : s.FragStored s.fragLen.toNat) : s.SeqInv := by
  simpa only [State.SeqInv, h] using ⟨hcrc, hfits, hstored⟩

theorem State.SeqInv.of_validate {s : State} (h : s.st = .validate) (hfits : s.FragFits)
    (hstored : s.FragStored s.fragLen.toNat) : s.SeqInv := by
  simpa only [State.SeqInv, h] using ⟨hfits, hstored⟩

theorem State.SeqInv.of_sendAck {s : State} (h : s.st = .sendAck) : s.SeqInv := by simp only [State.SeqInv, h]

theorem State.Inv.reg {s : State} (h : s.Inv) : s.RegInv := { h with }

theorem State.Inv.busy {s : State} (h : s.Inv) (hst : s.st ≠ .idle) : s.BusyInv :=
  have hbusy := s.busy_eq_true.mpr hst
  have ⟨hdone, herr, hcode⟩ := h.busyClean hbusy
  ⟨hdone, herr, hcode, h.plenCap hbusy⟩

/-- The three layers are the invariant. -/
theorem State.Inv.of_layers {s : State} (hreg : s.RegInv) (hbusy : s.st ≠ .idle → s.BusyInv) (hseq : s.SeqInv) : s.Inv :=
  { hreg with
    busyClean := fun hb => have h := hbusy (s.busy_eq_true.mp hb); ⟨h.done, h.err, h.errCode⟩
    plenCap := fun hb => (hbusy (s.busy_eq_true.mp hb)).plen
    inSend := fun hst => by simp only [State.SeqInv, hst] at hseq; exact hseq
    inAwait := fun hst => by simp only [State.SeqInv, hst] at hseq; exact hseq.1
    nakBound := fun k hk =>
      ⟨fun hst => by simp only [State.SeqInv, hst] at hseq; exact hseq.2 k hk,
        fun hst => by simp only [State.SeqInv, hst] at hseq; exact hseq k hk⟩
    inHeader := fun hst => by simp only [State.SeqInv, hst] at hseq; exact hseq
    inBody := fun hst => by simp only [State.SeqInv, hst] at hseq; exact hseq
    inCrc := fun hst => by simp only [State.SeqInv, hst] at hseq; exact hseq
    inValidate := fun hst => by simp only [State.SeqInv, hst] at hseq; exact hseq }

theorem State.Inv.tookTurn {s : State} (h : s.Inv) (ts : List Turn) : (s.tookTurn ts).Inv := { h with }

theorem State.Inv.tookAccess {s : State} (h : s.Inv) (q : List HostAccess) : (s.tookAccess q).Inv := { h with }

theorem State.Inv.tookRx {s : State} (h : s.Inv) (q : List RxAnswer) : (s.tookRx q).Inv := { h with }

theorem State.Inv.txSent {s : State} (h : s.Inv) (b : Byte) (q : List TxAnswer) : (s.txSent b q).Inv := { h with }

/-- In IDLE only the registers matter. -/
theorem State.RegInv.inv_of_idle {s : State} (h : s.RegInv) (hst : s.st = .idle) : s.Inv :=
  .of_layers h (fun hne => absurd hst hne) (State.SeqInv.of_idle hst)

/-- The ranges of R8 and R11. -/
theorem Params.ok_iff (p : Params) : p.ok = true ↔ 1 ≤ p.nDiscard ∧ Config.maxData ≤ p.reasmCap.toNat := by
  simp [Params.ok]

/-! Reset. -/

theorem zero_mem_legalErrCodes : 0x00#8 ∈ legalErrCodes := by decide

/-- At reset every register is 0 and every buffer empty: only the parameters are asked for. -/
theorem State.regInv_reset {s : State} (hok : s.par.ok = true) : s.resetBlock.RegInv where
  params := hok
  doneErr := rfl
  errLegal := ⟨zero_mem_legalErrCodes, nofun⟩
  rejectedIff := rfl
  statusZero _ := rfl
  rxLenCap := Nat.zero_le _
  txBufOk := ⟨rfl, rfl⟩
  rxBufOk := ⟨rfl, rfl⟩
  committed := Memory.written_empty _ _

/-! The host's steps (43_host_interface). -/

/-- Clearing the outcome leaves nothing received (R215). -/
theorem State.RegInv.clearOutcome {s : State} (h : s.RegInv) : s.clearOutcome.RegInv :=
  { h with
    doneErr := rfl
    errLegal := ⟨zero_mem_legalErrCodes, nofun⟩
    rejectedIff := rfl
    statusZero := fun _ => rfl
    rxLenCap := Nat.zero_le _
    committed := Memory.written_empty _ _ }

theorem errorByte_ne_zero (st : SeqState) (c : ErrorCode) : errorByte st c ≠ 0x00#8 := by
  cases c <;> cases st <;> decide

/-- Error entry from a state that is not DONE, with a code that R252 lists. -/
theorem State.RegInv.raiseError {s : State} {c : ErrorCode} (h : s.RegInv) (hdone : s.done = false)
    (hlegal : errorByte s.st c ∈ legalErrCodes) : (s.raiseError c).RegInv :=
  { h with
    doneErr := by rw [State.raiseError_done, hdone]; rfl
    errLegal := ⟨hlegal, fun _ => errorByte_ne_zero s.st c⟩ }

theorem State.Inv.pushTx {s : State} (h : s.Inv) (d : Byte) : (s.pushTx d).Inv := by
  have hbuf := s.pushTx_wf d h.txBufOk
  obtain ⟨-, heq⟩ | ⟨-, heq⟩ := s.pushTx_cases d <;> rw [heq] at hbuf ⊢
  · exact { h with txBufOk := hbuf }
  · exact { h with }

/-- Every effect of a host instruction keeps the invariant. -/
theorem HostEffect.inv {s t : State} (h : s.Inv) (he : HostEffect s t) : t.Inv := by
  cases he with
  | nothing => exact h
  | returned v => exact { h with }
  | refusedIgn => exact { h with }
  | flagsCleared =>
    exact { h with
      doneErr := rfl
      busyClean := fun hb => ⟨rfl, rfl, (h.busyClean hb).2.2⟩
      errLegal := ⟨h.errLegal.1, nofun⟩ }
  | wrote irqEn rxPtr crcAcc crcChk tckSum => exact { h with }
  | readResponse hlt => exact { h with }
  | underran hle => exact { h with }
  | wroteRequest seq svc txPlen txPtr hst => exact State.RegInv.inv_of_idle { h with } hst
  | pushed d _ => exact h.pushTx d
  | tooLong hst hlong =>
    exact (h.reg.clearOutcome.raiseError rfl (by simp [hst]; decide)).inv_of_idle rfl
  | accepted hst hfits =>
    refine .of_layers { h.reg.clearOutcome with } (fun _ => ⟨rfl, rfl, rfl, hfits⟩) (.of_send rfl ?_)
    simp [State.frameLen]
  | sessionInit hst =>
    exact State.RegInv.inv_of_idle { h with doneErr := rfl, errLegal := ⟨zero_mem_legalErrCodes, nofun⟩ } hst

/-! The engine's steps (42_link_sequencer). -/

/-- TxIoErr can end an exchange in three states (R252). -/
theorem State.errorByte_transmit_legal {s : State} (h : s.txValid = true) : errorByte s.st .ioError ∈ legalErrCodes := by
  have hst : s.st = .send ∨ s.st = .sendNak ∨ s.st = .sendAck := by simpa [State.txValid, or_assoc] using h
  obtain hst | hst | hst := hst <;> rw [hst] <;> decide

/-- Timeout and RxIoErr can end an exchange in four states (R252). -/
theorem State.errorByte_receive_legal {s : State} (h : s.rxReq = true) :
    errorByte s.st .timeout ∈ legalErrCodes ∧ errorByte s.st .ioError ∈ legalErrCodes := by
  have hst : s.st = .awaitAck ∨ s.st = .readHeader ∨ s.st = .readBody ∨ s.st = .readCrc := by
    simpa [State.rxReq, or_assoc] using h
  obtain hst | hst | hst | hst := hst <;> rw [hst] <;> decide

theorem State.ne_idle_of_txValid {s : State} (h : s.txValid = true) : s.st ≠ .idle := by
  rintro hst
  simp [State.txValid, hst] at h

theorem State.ne_idle_of_rxReq {s : State} (h : s.rxReq = true) : s.st ≠ .idle := by
  rintro hst
  simp [State.rxReq, hst] at h

/-- `tx_idx` has room for every index of the longest frame (10_state R41). -/
theorem State.txIdx_succ_toNat {s : State} (h : s.txIdx.toNat + 1 < s.frameLen) (hplen : s.txPlen.toNat ≤ Config.txCap) :
    (s.txIdx + 1#14).toNat = s.txIdx.toNat + 1 := by
  unfold State.frameLen at h
  unfold Config.txCap at hplen
  rw [BitVec.toNat_add]
  simp
  omega

theorem State.sentFrameByte_inv {s : State} (h : s.Inv) (hst : s.st = .send) : s.sentFrameByte.Inv := by
  have hbusy := h.busy (by simp [hst])
  obtain ⟨hmore, heq⟩ | ⟨-, heq⟩ := s.sentFrameByte_cases <;> rw [heq]
  · refine .of_layers { h.reg with } (fun _ => { hbusy with }) (.of_send hst ?_)
    exact (State.txIdx_succ_toNat hmore hbusy.plen).trans_lt hmore
  · exact .of_layers { h.reg with } (fun _ => { hbusy with })
      (.of_awaitAck rfl ((Params.ok_iff _).mp h.params).1 fun _ _ => Nat.zero_le _)

/-- A NAK round is counted: there was one left (R169). -/
theorem State.sentNak_inv {s : State} (h : s.Inv) (hst : s.st = .sendNak) : s.sentNak.Inv := by
  have hbusy := h.busy (by simp [hst])
  refine .of_layers { h.reg with } (fun _ => { hbusy with })
    (.of_awaitAck rfl ((Params.ok_iff _).mp h.params).1 fun k hk => ?_)
  have hleft := (h.nakBound k hk).2 hst
  have hcount := satInc_toNat s.nakRounds
  simp only [State.sentNak_nakRounds]
  omega

theorem State.beginFragment_inv {s : State} (h : s.Inv) (hst : s.st ≠ .idle) : s.beginFragment.Inv :=
  .of_layers { h.reg with } (fun _ => { h.busy hst with }) (.of_readHeader rfl (Nat.zero_lt_succ 5) rfl rfl)

/-- STATUS_VALID, STATUS and REJECTED are set together (R180). -/
theorem State.complete_inv {s : State} (h : s.Inv) (hst : s.st ≠ .idle) : s.complete.Inv := by
  have hbusy := h.busy hst
  refine State.RegInv.inv_of_idle { h.reg with doneErr := ?_, rejectedIff := ?_, statusZero := ?_ } rfl
  · simp [hbusy.err]
  · by_cases hempty : s.rxLen = 0#16 <;> simp [hempty]
  · intro hinvalid
    have hempty : s.rxLen = 0#16 := by simpa using hinvalid
    simp [hempty]

theorem State.raiseError_inv {s : State} {c : ErrorCode} (hreg : s.RegInv) (hdone : s.done = false)
    (hlegal : errorByte s.st c ∈ legalErrCodes) : (s.raiseError c).Inv :=
  (hreg.raiseError hdone hlegal).inv_of_idle rfl

theorem State.discardByte_inv {s : State} (h : s.Inv) (hst : s.st = .awaitAck) : s.discardByte.Inv := by
  have hbusy := h.busy (by simp [hst])
  obtain ⟨hleft, heq⟩ | ⟨-, hround, heq⟩ | ⟨-, -, heq⟩ := s.discardByte_cases <;> rw [heq]
  · exact .of_layers { h.reg with } (fun _ => { hbusy with }) (.of_awaitAck hst hleft fun k hk => (h.nakBound k hk).1 hst)
  · exact .of_layers { h.reg with } (fun _ => { hbusy with })
      (.of_sendNak rfl (s.nakRoundLeft_iff.mp hround))
  · exact State.raiseError_inv { h.reg with } hbusy.done (by simp [hst]; decide)

/-- The state after the sixth header byte, not yet checked, is that of no sequencer state: only the registers and the
indices that `BeginFragment` has set are known. -/
theorem State.headerDone_inv {s : State} (hreg : s.RegInv) (hbusy : s.BusyInv) (hst : s.st = .readHeader)
    (hbody : s.bodyIdx = 0#16) (hcrc : s.crcIdx = 0) : s.headerDone.Inv := by
  obtain ⟨c, herr, heq⟩ | ⟨herr, heq⟩ := s.headerDone_cases <;> rw [heq]
  · have hcode : c = .badFraming ∨ c = .overflow := by
      obtain ⟨hcase, -⟩ | ⟨hcase, -⟩ | ⟨hcase, -⟩ := s.headerError_cases <;> simp_all
    refine State.raiseError_inv { hreg with } hbusy.done ?_
    obtain rfl | rfl := hcode <;> simp [hst] <;> decide
  · have hfits : s.rxLen.toNat + s.hdr.length.toNat ≤ s.par.reasmCap.toNat := by
      obtain ⟨hcase, -⟩ | ⟨hcase, -⟩ | ⟨-, -, -, hfits⟩ := s.headerError_cases
      · simp [herr] at hcase
      · simp [herr] at hcase
      · exact hfits
    refine .of_layers { hreg with } (fun _ => { hbusy with }) ?_
    by_cases hempty : s.hdr.length = 0#16
    · refine .of_readCrc (if_pos hempty) ?_ hfits ?_
      · simp [hcrc, Config.crcLen]
      · simp [State.FragStored, hempty, Memory.written_empty]
    · refine .of_readBody (if_neg hempty) ?_ hfits hcrc ?_
      · have hpos : s.hdr.length.toNat ≠ 0 := fun hzero => hempty (BitVec.eq_of_toNat_eq hzero)
        simp [hbody]
        omega
      · simp [State.FragStored, hbody, Memory.written_empty]

/-- READ_HEADER (R172, R173): the byte is stored, and the sixth one is checked. -/
theorem State.headerByte_cases (s : State) (b : Byte) :
    (s.hdrIdx + 1 < Config.hdrLen ∧ s.headerByte b = s.tookHeaderByte b) ∨
    (Config.hdrLen ≤ s.hdrIdx + 1 ∧ s.headerByte b = (s.tookHeaderByte b).headerDone) := by
  unfold State.headerByte
  split
  · exact .inl ⟨‹_›, rfl⟩
  · exact .inr ⟨Nat.not_lt.mp ‹_›, rfl⟩

theorem State.headerByte_inv {s : State} (h : s.Inv) (hst : s.st = .readHeader) (b : Byte) : (s.headerByte b).Inv := by
  have hbusy := h.busy (by simp [hst])
  have ⟨_, hbody, hcrc⟩ := h.inHeader hst
  obtain ⟨hmore, heq⟩ | ⟨-, heq⟩ := s.headerByte_cases b <;> rw [heq]
  · exact .of_layers { h.reg with } (fun _ => { hbusy with }) (.of_readHeader hst hmore hbody hcrc)
  · exact State.headerDone_inv (s := s.tookHeaderByte b) { h.reg with } { hbusy with } hst hbody hcrc

/-- `body_idx` has room for every index of the fragment (10_state R41). -/
theorem State.bodyIdx_succ_toNat {s : State} (h : s.bodyIdx.toNat < s.fragLen.toNat) :
    (s.bodyIdx + 1#16).toNat = s.bodyIdx.toNat + 1 := by
  have := s.fragLen.isLt
  rw [BitVec.toNat_add]
  simp
  omega

theorem State.bodyByte_inv {s t : State} (h : s.Inv) (hst : s.st = .readBody) {b : Byte} (hb : s.bodyByte b = .next t) :
    t.Inv := by
  have hbusy := h.busy (by simp [hst])
  have ⟨hidx, hfits, hcrc, hstored⟩ := h.inBody hst
  have hbuf := s.bodyByte_wf t b hb h.rxBufOk
  obtain ⟨-, heq⟩ | ⟨-, heq⟩ := s.bodyByte_cases b <;> rw [heq] at hb <;> cases hb
  have hcommitted := s.rxBuf.written_write 0 s.rxLen.toNat s.bodyIndex b h.committed
  have hstored : (s.rxBuf.write s.bodyIndex b).written s.rxLen.toNat (s.rxLen.toNat + (s.bodyIdx.toNat + 1)) :=
    s.rxBuf.written_snoc s.rxLen.toNat s.bodyIndex b hstored
  refine .of_layers { h.reg with rxBufOk := hbuf, committed := hcommitted } (fun _ => { hbusy with }) ?_
  by_cases hmore : s.bodyIdx.toNat + 1 < s.fragLen.toNat
  · refine .of_readBody (if_pos hmore) ?_ hfits hcrc ?_
    · simpa [State.bodyIdx_succ_toNat hidx] using hmore
    · simpa [State.FragStored, State.bodyIdx_succ_toNat hidx] using hstored
  · have hlast : s.bodyIdx.toNat + 1 = s.fragLen.toNat := by omega
    refine .of_readCrc (if_neg hmore) ?_ hfits ?_
    · simp [hcrc, Config.crcLen]
    · rwa [hlast] at hstored

theorem State.crcByte_inv {s : State} (h : s.Inv) (hst : s.st = .readCrc) (b : Byte) : (s.crcByte b).Inv := by
  have hbusy := h.busy (by simp [hst])
  have ⟨_, hfits, hstored⟩ := h.inCrc hst
  obtain ⟨-, heq⟩ | ⟨-, heq⟩ := s.crcByte_cases b <;> rw [heq]
  · exact .of_layers { h.reg with } (fun _ => { hbusy with }) (.of_readCrc hst Nat.one_lt_two hfits hstored)
  · exact .of_layers { h.reg with } (fun _ => { hbusy with }) (.of_validate rfl hfits hstored)

/-- The new RX_LEN does not wrap: REASM_CAP bounds it (R44). -/
theorem State.FragFits.rxLen_add_toNat {s : State} (h : s.FragFits) :
    (s.rxLen + s.fragLen).toNat = s.rxLen.toNat + s.fragLen.toNat := by
  have := s.par.reasmCap.isLt
  unfold State.FragFits at h
  rw [BitVec.toNat_add, Nat.mod_eq_of_lt (by omega)]

theorem State.validateFrag_inv {s : State} (h : s.Inv) (hst : s.st = .validate) : s.validateFrag.Inv := by
  have hbusy := h.busy (by simp [hst])
  have ⟨(hfits : s.FragFits), hstored⟩ := h.inValidate hst
  obtain ⟨-, heq⟩ | ⟨-, heq⟩ := s.validateFrag_cases <;> rw [heq]
  · refine .of_layers { h.reg with rxLenCap := ?_, committed := ?_ } (fun _ => { hbusy with }) (.of_sendAck rfl)
    · exact hfits.rxLen_add_toNat.trans_le hfits
    · simpa only [hfits.rxLen_add_toNat] using Memory.written_trans _ _ _ _ h.committed hstored
  · exact State.raiseError_inv { h.reg with } hbusy.done (by simp [hst]; decide)

/-- Every effect of an engine step keeps the invariant. -/
theorem EngineEffect.inv {s t : State} {r : Result} (h : s.Inv) (he : EngineEffect s r) (hr : r = .next t) : t.Inv := by
  cases he with
  | idle _ => cases hr; exact h
  | waits _ _ => cases hr; exact h
  | sendFault f _ _ => cases hr
  | txIoErr q hvalid _ =>
    cases hr
    exact State.raiseError_inv { h.reg with } (h.busy (State.ne_idle_of_txValid hvalid)).done
      (State.errorByte_transmit_legal hvalid)
  | sentFrameByte b q hst _ _ => cases hr; exact State.sentFrameByte_inv (h.txSent b q) hst
  | sentNak q hst _ => cases hr; exact State.sentNak_inv (h.txSent _ q) hst
  | nextFragment q hst _ _ => cases hr; exact State.beginFragment_inv (h.txSent _ q) (by simp [hst])
  | completed q hst _ _ => cases hr; exact State.complete_inv (h.txSent _ q) (by simp [hst])
  | timedOut q hreq _ =>
    cases hr
    exact State.raiseError_inv { h.reg with } (h.busy (State.ne_idle_of_rxReq hreq)).done
      (State.errorByte_receive_legal hreq).1
  | rxIoErr q hreq _ =>
    cases hr
    exact State.raiseError_inv { h.reg with } (h.busy (State.ne_idle_of_rxReq hreq)).done
      (State.errorByte_receive_legal hreq).2
  | acked q hst _ => cases hr; exact State.beginFragment_inv (h.tookRx q) (by simp [hst])
  | naked q hst _ =>
    cases hr
    exact State.raiseError_inv { h.reg with } (h.busy (by simp [hst])).done (by simp [hst]; decide)
  | discarded b q hst _ _ _ => cases hr; exact State.discardByte_inv (h.tookRx q) hst
  | headerByte b q hst _ => cases hr; exact State.headerByte_inv (h.tookRx q) hst b
  | bodyByte b q hst _ => exact State.bodyByte_inv (h.tookRx q) hst hr
  | crcByte b q hst _ => cases hr; exact State.crcByte_inv (h.tookRx q) hst b
  | validated hst => cases hr; exact State.validateFrag_inv h hst

/-- Settles O50, by what one step can do: no turn, a reset, a host access or an engine transition. -/
theorem everyStepKeepsInvariant : Obligations.EveryStepKeepsInvariant := by
  intro s t h hstep
  obtain ⟨-, he⟩ | ⟨ts, -, he⟩ | ⟨ts, -, -, he⟩ | ⟨ts, a, q, i, u, -, -, -, -, he, heffect⟩ | ⟨ts, -, heffect⟩ := step_cases s
  · cases he.symm.trans hstep
    exact h
  · cases he.symm.trans hstep
    exact (State.regInv_reset (s := s.tookTurn ts) h.params).inv_of_idle rfl
  · cases he.symm.trans hstep
    exact h.tookTurn ts
  · cases he.symm.trans hstep
    exact heffect.inv ((h.tookTurn ts).tookAccess q)
  · exact heffect.inv (h.tookTurn ts) hstep

end Sys2Proof.Machine
end

section
/-! The receive CRC (42_link_sequencer R176): `rx_acc` is the CRC register after the bytes of the fragment so far. A header
byte extends the header taken, a data byte the data in RX_BUF; every other step leaves the receive states or what they
read. -/

namespace Sys2Proof.Machine

/-- The states in which a fragment is being received. -/
def SeqState.receiving : SeqState → Bool
  | .readHeader => true
  | .readBody => true
  | .readCrc => true
  | .validate => true
  | _ => false

/-- Outside the receive states `rx_acc` means nothing. -/
theorem State.CrcInv.of_not_receiving {s : State} (h : s.st.receiving = false) : s.CrcInv where
  inHeader hst := by simp [hst, SeqState.receiving] at h
  inBody hst := by simp [hst, SeqState.receiving] at h
  inCrc hst := by simp [hst, SeqState.receiving] at h
  inValidate hst := by simp [hst, SeqState.receiving] at h

theorem State.CrcInv.tookTurn {s : State} (h : s.CrcInv) (ts : List Turn) : (s.tookTurn ts).CrcInv := { h with }

theorem State.CrcInv.tookAccess {s : State} (h : s.CrcInv) (q : List HostAccess) : (s.tookAccess q).CrcInv := { h with }

theorem State.CrcInv.tookRx {s : State} (h : s.CrcInv) (q : List RxAnswer) : (s.tookRx q).CrcInv := { h with }

/-- No host instruction touches what the receive states read. -/
theorem HostEffect.crcInv {s t : State} (h : s.CrcInv) (he : HostEffect s t) : t.CrcInv := by
  cases he with
  | nothing => exact h
  | returned v => exact { h with }
  | refusedIgn => exact { h with }
  | flagsCleared => exact { h with }
  | wrote irqEn rxPtr crcAcc crcChk tckSum => exact { h with }
  | readResponse _ => exact { h with }
  | underran _ => exact { h with }
  | wroteRequest seq svc txPlen txPtr _ => exact { h with }
  | pushed d _ => obtain ⟨-, heq⟩ | ⟨-, heq⟩ := s.pushTx_cases d <;> rw [heq] <;> exact { h with }
  | tooLong _ _ => exact .of_not_receiving rfl
  | accepted _ _ => exact .of_not_receiving rfl
  | sessionInit _ => exact { h with }

/-! The header. -/

@[simp] theorem Header.bytes_length (h : Header) : h.bytes.length = 6 := rfl

/-- `HDR[i] <- b` as an update of the list of the six bytes (R172). -/
theorem Header.set_bytes (h : Header) (i : Nat) (b : Byte) : (h.set i b).bytes = h.bytes.set i b := by
  match i with
  | 0 => rfl
  | 1 => rfl
  | 2 => rfl
  | 3 => rfl
  | 4 => rfl
  | 5 => rfl
  | _ + 6 => rfl

/-- The header bytes taken, with the next one stored behind them. -/
theorem Header.take_succ_set_bytes (h : Header) {i : Nat} (hi : i < Config.hdrLen) (b : Byte) :
    (h.set i b).bytes.take (i + 1) = h.bytes.take i ++ [b] := by
  have hlen : i < (h.bytes.set i b).length := by rwa [List.length_set]
  rw [Header.set_bytes, List.take_succ_eq_append_getElem hlen, List.take_set_of_le le_rfl, List.getElem_set_self]

theorem State.beginFragment_crcInv (s : State) : s.beginFragment.CrcInv where
  inHeader _ := rfl
  inBody := nofun
  inCrc := nofun
  inValidate := nofun

/-- The sixth byte completes the header: `rx_acc` covers all of it and no data byte is in yet (R173). -/
theorem State.headerDone_crcInv {s : State} (hbody : s.bodyIdx = 0#16)
    (hacc : s.rxAcc = crcFeed 0xFFFF#16 s.hdr.bytes) : s.headerDone.CrcInv := by
  obtain ⟨c, -, heq⟩ | ⟨herr, heq⟩ := s.headerDone_cases <;> rw [heq]
  · exact .of_not_receiving rfl
  · have hstp : s.hdr.h0 = Config.stp := by
      obtain ⟨hcase, -⟩ | ⟨hcase, -⟩ | ⟨-, hstp, -⟩ := s.headerError_cases
      · simp [herr] at hcase
      · simp [herr] at hcase
      · exact hstp
    by_cases hempty : s.hdr.length = 0#16
    · simp only [hempty, if_true]
      exact { inHeader := nofun, inBody := nofun, inValidate := nofun
              inCrc := fun _ => ⟨⟨hempty.symm, rfl, hstp⟩, by simpa [State.fragData] using hacc⟩ }
    · simp only [hempty, if_false]
      exact { inHeader := nofun, inCrc := nofun, inValidate := nofun
              inBody := fun _ => ⟨⟨rfl, rfl, hstp⟩, by simpa [State.fragData, hbody] using hacc⟩ }

theorem State.headerByte_crcInv {s : State} (hinv : s.Inv) (h : s.CrcInv) (hst : s.st = .readHeader) (b : Byte) :
    (s.headerByte b).CrcInv := by
  have ⟨hidx, hbody, _⟩ := hinv.inHeader hst
  have hacc : crcStep s.rxAcc b = crcFeed 0xFFFF#16 ((s.hdr.set s.hdrIdx b).bytes.take (s.hdrIdx + 1)) := by
    rw [Header.take_succ_set_bytes s.hdr hidx, crcFeed_snoc, ← h.inHeader hst]
  obtain ⟨-, heq⟩ | ⟨hlast, heq⟩ := s.headerByte_cases b <;> rw [heq]
  · exact { inHeader := fun _ => hacc
            inBody := fun hne => absurd (hst.symm.trans hne) (by decide)
            inCrc := fun hne => absurd (hst.symm.trans hne) (by decide)
            inValidate := fun hne => absurd (hst.symm.trans hne) (by decide) }
  · have hall : (s.hdr.set s.hdrIdx b).bytes.length ≤ s.hdrIdx + 1 := hlast
    rw [List.take_of_length_le hall] at hacc
    exact State.headerDone_crcInv (s := s.tookHeaderByte b) hbody hacc

/-! The data. -/

theorem State.fragData_succ (s : State) (n : Nat) : s.fragData (n + 1) = s.fragData n ++ [s.rxRead (s.rxLen.toNat + n)] := by
  simp [State.fragData, List.range_succ]

/-- The data of a fragment are the bytes of RX_BUF from RX_LEN on, and nothing else. -/
theorem State.fragData_congr {s t : State} {n : Nat}
    (h : ∀ k, k < n → t.rxRead (t.rxLen.toNat + k) = s.rxRead (s.rxLen.toNat + k)) : t.fragData n = s.fragData n :=
  List.map_congr_left fun k hk => h k (List.mem_range.mp hk)

/-- A byte stored in RX_BUF is read there, and every other byte reads as before (R60). -/
theorem State.rxRead_of_write {s t : State} {i : Nat} {b : Byte} (h : t.rxBuf = s.rxBuf.write i b) (j : Nat) :
    t.rxRead j = if j = i then b else s.rxRead j := by
  unfold State.rxRead
  rw [h, Memory.read_write]
  split <;> rfl

/-- Storing the next data byte extends the data by it (R174). -/
theorem State.fragData_of_write {s t : State} {n : Nat} {b : Byte} (hlen : t.rxLen = s.rxLen)
    (h : t.rxBuf = s.rxBuf.write (s.rxLen.toNat + n) b) : t.fragData (n + 1) = s.fragData n ++ [b] := by
  have hkept : t.fragData n = s.fragData n := State.fragData_congr fun k hk => by
    rw [State.rxRead_of_write h, hlen, if_neg (by omega)]
  rw [State.fragData_succ, hkept, State.rxRead_of_write h, hlen, if_pos rfl]

theorem State.bodyByte_crcInv {s t : State} (hinv : s.Inv) (h : s.CrcInv) (hst : s.st = .readBody) {b : Byte}
    (hb : s.bodyByte b = .next t) : t.CrcInv := by
  have ⟨hidx, _⟩ := hinv.inBody hst
  have ⟨htaken, hacc⟩ := h.inBody hst
  obtain ⟨-, heq⟩ | ⟨-, heq⟩ := s.bodyByte_cases b <;> rw [heq] at hb <;> cases hb
  have hfeed : ∀ t : State, t.rxLen = s.rxLen → t.rxBuf = s.rxBuf.write s.bodyIndex b →
      crcStep s.rxAcc b = crcFeed 0xFFFF#16 (s.hdr.bytes ++ t.fragData (s.bodyIdx.toNat + 1)) := by
    intro t hlen hbuf
    rw [State.fragData_of_write hlen hbuf, ← List.append_assoc, crcFeed_snoc, ← hacc]
  by_cases hmore : s.bodyIdx.toNat + 1 < s.fragLen.toNat
  · simp only [hmore, if_true]
    refine { inHeader := nofun, inCrc := nofun, inValidate := nofun, inBody := fun _ => ⟨htaken, ?_⟩ }
    simp only [State.bodyIdx_succ_toNat hidx]
    exact hfeed _ rfl rfl
  · simp only [hmore, if_false]
    refine { inHeader := nofun, inBody := nofun, inValidate := nofun, inCrc := fun _ => ⟨htaken, ?_⟩ }
    have hlast : s.fragLen.toNat = s.bodyIdx.toNat + 1 := by omega
    simp only [hlast]
    exact hfeed _ rfl rfl

/-- The trailer enters neither the CRC nor the data (R175). -/
theorem State.crcByte_crcInv {s : State} (h : s.CrcInv) (hst : s.st = .readCrc) (b : Byte) : (s.crcByte b).CrcInv := by
  obtain ⟨-, heq⟩ | ⟨-, heq⟩ := s.crcByte_cases b <;> rw [heq]
  · exact { h with }
  · exact { inHeader := nofun, inBody := nofun, inCrc := nofun, inValidate := fun _ => h.inCrc hst }

theorem EngineEffect.crcInv {s t : State} {r : Result} (hinv : s.Inv) (h : s.CrcInv) (he : EngineEffect s r)
    (hr : r = .next t) : t.CrcInv := by
  cases he with
  | idle _ => cases hr; exact h
  | waits _ _ => cases hr; exact h
  | sendFault f _ _ => cases hr
  | txIoErr q _ _ => cases hr; exact .of_not_receiving rfl
  | sentFrameByte b q hst _ _ =>
    cases hr
    obtain ⟨-, heq⟩ | ⟨-, heq⟩ := (s.txSent b q).sentFrameByte_cases <;> rw [heq]
    · exact { h with }
    · exact .of_not_receiving rfl
  | sentNak q _ _ => cases hr; exact .of_not_receiving rfl
  | nextFragment q _ _ _ => cases hr; exact State.beginFragment_crcInv _
  | completed q _ _ _ => cases hr; exact .of_not_receiving rfl
  | timedOut q _ _ => cases hr; exact .of_not_receiving rfl
  | rxIoErr q _ _ => cases hr; exact .of_not_receiving rfl
  | acked q _ _ => cases hr; exact State.beginFragment_crcInv _
  | naked q _ _ => cases hr; exact .of_not_receiving rfl
  | discarded b q hst _ _ _ =>
    cases hr
    obtain ⟨-, heq⟩ | ⟨-, -, heq⟩ | ⟨-, -, heq⟩ := (s.tookRx q).discardByte_cases <;> rw [heq]
    · exact { h with }
    · exact .of_not_receiving rfl
    · exact .of_not_receiving rfl
  | headerByte b q hst _ => cases hr; exact State.headerByte_crcInv (hinv.tookRx q) (h.tookRx q) hst b
  | bodyByte b q hst _ => exact State.bodyByte_crcInv (hinv.tookRx q) (h.tookRx q) hst hr
  | crcByte b q hst _ => cases hr; exact State.crcByte_crcInv (h.tookRx q) hst b
  | validated _ =>
    cases hr
    obtain ⟨-, heq⟩ | ⟨-, heq⟩ := s.validateFrag_cases <;> rw [heq] <;> exact .of_not_receiving rfl

/-- Settles O51, by what one step can do: only a header byte and a data byte feed `rx_acc`. -/
theorem everyStepKeepsReceiveCrc : Obligations.EveryStepKeepsReceiveCrc := by
  intro s t hinv h hstep
  obtain ⟨-, he⟩ | ⟨ts, -, he⟩ | ⟨ts, -, -, he⟩ | ⟨ts, a, q, i, u, -, -, -, -, he, heffect⟩ | ⟨ts, -, heffect⟩ := step_cases s
  · cases he.symm.trans hstep
    exact h
  · cases he.symm.trans hstep
    exact .of_not_receiving rfl
  · cases he.symm.trans hstep
    exact h.tookTurn ts
  · cases he.symm.trans hstep
    exact heffect.crcInv ((h.tookTurn ts).tookAccess q)
  · exact heffect.crcInv (hinv.tookTurn ts) (h.tookTurn ts) hstep

end Sys2Proof.Machine
end

section
/-! Faults (20_memory R60, 70_reset R282): under the invariant the engine's indices are inside their buffers, so the only
read that can fail is that of a payload byte no TX_DATA write has stored. -/

namespace Sys2Proof.Machine

/-- A fault of the encoder is that of one payload byte: the head and the trailer's place are always readable. -/
theorem State.txFrameByte_error {s : State} {i : Nat} {f : Fault} (hi : i < s.frameLen)
    (h : s.txFrameByte i = .error f) : ∃ j, j < s.txPlen.toNat ∧ s.txRead j = .error f := by
  have hcrc : ∀ g : Half → Byte, s.txCrc.map g = .error f → ∃ j, j < s.txPlen.toNat ∧ s.txRead j = .error f := by
    intro g hg
    unfold State.txCrc at hg
    split at hg
    · next f' hf' =>
      cases hg
      obtain ⟨j, -, hj, hread⟩ := s.txBytes_error 0 _ f hf'
      exact ⟨j, by omega, hread⟩
    · cases hg
  obtain ⟨-, heq⟩ | ⟨_, hlt, heq⟩ | ⟨-, heq⟩ | ⟨-, heq⟩ | ⟨hpast, -⟩ := s.txFrameByte_cases i
  · cases heq.symm.trans h
  · exact ⟨i - 7, by omega, heq.symm.trans h⟩
  · exact hcrc lo (heq.symm.trans h)
  · exact hcrc Machine.hi (heq.symm.trans h)
  · omega

/-- With a payload that fits TX_BUF the byte that cannot be read is an unwritten one. -/
theorem State.txFrameByte_unwritten {s : State} {i : Nat} {f : Fault} (hplen : s.txPlen.toNat ≤ Config.txCap)
    (hi : i < s.frameLen) (h : s.txFrameByte i = .error f) :
    ∃ j, j < s.txPlen.toNat ∧ s.txBuf.read j = none ∧ f = .txByteUnwritten j := by
  obtain ⟨j, hj, hread⟩ := State.txFrameByte_error hi h
  obtain ⟨-, hnone, hf⟩ | ⟨hpast, -⟩ := (s.txRead_error_iff j f).mp hread
  · exact ⟨j, hj, hnone, hf⟩
  · omega

/-- A body byte has its place inside RX_BUF (R138, R174). -/
theorem State.Inv.bodyIndex_lt {s : State} (h : s.Inv) (hst : s.st = .readBody) : s.bodyIndex < s.par.reasmCap.toNat := by
  have ⟨hidx, hfits, _⟩ := h.inBody hst
  unfold State.bodyIndex
  omega

/-- An engine step goes on, or is the fault of an unwritten payload byte. -/
theorem EngineEffect.next_or_unwritten {s : State} {r : Result} (h : s.Inv) (he : EngineEffect s r) :
    (∃ t, r = .next t) ∨
    s.st = .send ∧ ∃ i, i < s.txPlen.toNat ∧ s.txBuf.read i = none ∧ r = .fault (.txByteUnwritten i) := by
  cases he with
  | sendFault f hst hf =>
    obtain ⟨i, hi, hnone, rfl⟩ :=
      State.txFrameByte_unwritten (h.busy (by simp [hst])).plen (h.inSend hst) hf
    exact .inr ⟨hst, i, hi, hnone, rfl⟩
  | bodyByte b q hst hq => exact .inl ⟨_, State.bodyByte_of_lt ((h.tookRx q).bodyIndex_lt hst) b⟩
  | _ => exact .inl ⟨_, rfl⟩

/-- The same of a step of any agent. -/
theorem State.Inv.step_next_or_unwritten {s : State} (h : s.Inv) :
    (∃ t, step s = .next t) ∨
    s.st = .send ∧ ∃ i, i < s.txPlen.toNat ∧ s.txBuf.read i = none ∧ step s = .fault (.txByteUnwritten i) := by
  obtain ⟨-, he⟩ | ⟨ts, -, he⟩ | ⟨ts, -, -, he⟩ | ⟨ts, a, q, i, t, -, -, -, -, he, -⟩ | ⟨ts, -, heffect⟩ := step_cases s
  · exact .inl ⟨_, he⟩
  · exact .inl ⟨_, he⟩
  · exact .inl ⟨_, he⟩
  · exact .inl ⟨_, he⟩
  · have hengine := heffect.next_or_unwritten (h.tookTurn ts)
    exact hengine

/-- Settles O53: of a step's two outcomes under the invariant neither is a refusal, and a written payload excludes the
fault. -/
theorem onlyUnwrittenPayloadFaults : Obligations.OnlyUnwrittenPayloadFaults := by
  intro s h
  obtain ⟨t, ht⟩ | ⟨hst, i, hi, hnone, hfault⟩ := h.step_next_or_unwritten
  · exact ⟨fun r hr => (by cases ht.symm.trans hr), fun f hf => (by cases ht.symm.trans hf), fun _ => ⟨t, ht⟩⟩
  · refine ⟨fun r hr => (by cases hfault.symm.trans hr), fun f hf => ?_, fun hwritten => ?_⟩
    · cases hfault.symm.trans hf
      exact ⟨hst, i, hi, hnone, rfl⟩
    · have hsome := hwritten i (Nat.zero_le i) hi
      simp [hnone] at hsome

end Sys2Proof.Machine
end

section
/-! TxFrame while an exchange goes on (20_memory R73, 41_framer R132): its source is written only while not busy, by
completion, or by reset, and each of the last two ends in IDLE. -/

namespace Sys2Proof.Machine

theorem HostEffect.txSource {s t : State} (hbusy : s.st ≠ .idle) (he : HostEffect s t) : t.txSource = s.txSource := by
  cases he with
  | wroteRequest seq svc txPlen txPtr hidle => exact absurd hidle hbusy
  | pushed d hidle => exact absurd hidle hbusy
  | tooLong hidle _ => exact absurd hidle hbusy
  | accepted hidle _ => exact absurd hidle hbusy
  | sessionInit hidle => exact absurd hidle hbusy
  | _ => rfl

/-- The engine took TxOk of the final ACK (R179). -/
def State.Completes (s t : State) : Prop :=
  ∃ q, s.st = .sendAck ∧ s.ackFinal = true ∧ s.env.txQ = .ok :: q ∧ t = (s.txSent Config.ack q).complete

/-- Of the engine's transitions only completion writes what TxFrame is built from: CTRL_BIT (R180). -/
theorem EngineEffect.txSource_or_completes {s t : State} {r : Result} (he : EngineEffect s r) (hr : r = .next t) :
    t.txSource = s.txSource ∨ s.Completes t := by
  cases he with
  | completed q hst hfinal hq => cases hr; exact .inr ⟨q, hst, hfinal, hq, rfl⟩
  | sendFault f _ _ => cases hr
  | sentFrameByte b q _ _ _ =>
    cases hr
    obtain ⟨-, heq⟩ | ⟨-, heq⟩ := (s.txSent b q).sentFrameByte_cases <;> exact .inl (by rw [heq]; rfl)
  | discarded b q _ _ _ _ =>
    cases hr
    obtain ⟨-, heq⟩ | ⟨-, -, heq⟩ | ⟨-, -, heq⟩ := (s.tookRx q).discardByte_cases <;> exact .inl (by rw [heq]; rfl)
  | headerByte b q _ _ =>
    cases hr
    obtain ⟨-, heq⟩ | ⟨-, heq⟩ := (s.tookRx q).headerByte_cases b
    · exact .inl (by rw [heq]; rfl)
    · obtain ⟨c, -, hdone⟩ | ⟨-, hdone⟩ := ((s.tookRx q).tookHeaderByte b).headerDone_cases <;>
        exact .inl (by rw [heq, hdone]; rfl)
  | bodyByte b q _ _ =>
    obtain ⟨-, heq⟩ | ⟨-, heq⟩ := (s.tookRx q).bodyByte_cases b <;> rw [heq] at hr <;> cases hr
    exact .inl rfl
  | crcByte b q _ _ =>
    cases hr
    obtain ⟨-, heq⟩ | ⟨-, heq⟩ := (s.tookRx q).crcByte_cases b <;> exact .inl (by rw [heq]; rfl)
  | validated _ =>
    cases hr
    obtain ⟨-, heq⟩ | ⟨-, heq⟩ := s.validateFrag_cases <;> exact .inl (by rw [heq]; rfl)
  | _ => cases hr; exact .inl rfl

/-- A step of any agent that leaves the block busy keeps the source of TxFrame. -/
theorem step_txSource_of_busy {s t : State} (hs : s.st ≠ .idle) (hstep : step s = .next t) (ht : t.st ≠ .idle) :
    t.txSource = s.txSource := by
  obtain ⟨-, he⟩ | ⟨ts, -, he⟩ | ⟨ts, -, -, he⟩ | ⟨ts, a, q, i, u, -, -, -, -, he, heffect⟩ | ⟨ts, -, heffect⟩ := step_cases s
  · cases he.symm.trans hstep
    rfl
  · cases he.symm.trans hstep
    exact absurd rfl ht
  · cases he.symm.trans hstep
    rfl
  · cases he.symm.trans hstep
    exact HostEffect.txSource (s := (s.tookTurn ts).tookAccess q) hs heffect
  · obtain hsame | ⟨q, -, -, -, rfl⟩ := heffect.txSource_or_completes hstep
    · exact hsame
    · exact absurd rfl ht

/-- Settles O55: every byte of TxFrame is a function of its source. -/
theorem transmitFrameFixedWhileBusy : Obligations.TransmitFrameFixedWhileBusy := by
  intro s t hs hstep ht
  have hsame := step_txSource_of_busy (s.busy_eq_true.mp hs) hstep (t.busy_eq_true.mp ht)
  exact ⟨hsame, State.txFrameByte_congr s t hsame⟩

end Sys2Proof.Machine
end

section
/-! CTRL_BIT (10_state R21, R45): of the host's instructions only SESSION_INIT writes it, and one access alone decodes to
SESSION_INIT; of the engine's transitions only completion does. -/

namespace Sys2Proof.Machine

theorem State.txGroup_ctrlBit {s k : State} (h : k.ctrlBit = s.ctrlBit) : (s.txGroup k).ctrlBit = s.ctrlBit := by
  obtain ⟨-, heq⟩ | ⟨-, heq⟩ := s.txGroup_cases k <;> rw [heq]
  · exact h
  · rfl

theorem State.pushTx_ctrlBit (s : State) (d : Byte) : (s.pushTx d).ctrlBit = s.ctrlBit := by
  obtain ⟨-, heq⟩ | ⟨-, heq⟩ := s.pushTx_cases d <;> rw [heq]

theorem exec_host_ctrlBit {i : Instr} {s t : State} (hhost : onWire i = false) (hne : i ≠ .cmdSessionInit)
    (h : exec i s = .next t) : t.ctrlBit = s.ctrlBit := by
  cases i
  case cmdSessionInit => exact absurd rfl hne
  case cmdExchange =>
    by_cases hidle : s.st = .idle
    · by_cases hfits : s.txPlen.toNat ≤ Config.txCap
      · cases (exec_cmdExchange_of_le_txCap hidle hfits).symm.trans h
        rfl
      · cases (exec_cmdExchange_of_txCap_lt hidle (Nat.lt_of_not_le hfits)).symm.trans h
        rfl
    · cases (exec_cmdExchange_of_busy hidle).symm.trans h
      rfl
  case rdRxData =>
    by_cases hdata : s.rxPtr.toNat < s.rxLen.toNat
    · cases (exec_rdRxData_of_lt hdata).symm.trans h
      rfl
    · cases (exec_rdRxData_of_le (Nat.le_of_not_lt hdata)).symm.trans h
      rfl
  case wrTxData d =>
    cases h
    exact State.txGroup_ctrlBit (s.pushTx_ctrlBit d)
  case wrSeq | wrSvc | wrTxPlenLo | wrTxPlenHi | wrTxPtrLo | wrTxPtrHi | svcIdent | svcTerminate | svcFullRead |
      svcFullWrite | svcPartialWrite | svcLogon | svcSecurity | svcLogoff | svcNegotiate =>
    cases h
    exact State.txGroup_ctrlBit rfl
  case txFrame | txAck | txNak | rxAck | rxNak | rxDiscard | rxFrame => cases hhost
  all_goals
    cases h
    rfl

/-- The only access that is SESSION_INIT is the write of its code to CMD (30_encoding R97). -/
theorem HostAccess.eq_of_decoded_sessionInit {a : HostAccess} (h : a.decoded = .ok .cmdSessionInit) :
    a = .wr 0x00#8 0x02#8 := by
  cases a with
  | wr a d =>
    have hword : writeWord a d = encode .cmdSessionInit := by
      rw [← encode_decodeWrite a d, show decodeWrite a d = .cmdSessionInit from Except.ok.inj h]
    simp only [writeWord, encode, CodeWord.mk.injEq, List.cons.injEq, and_true, true_and] at hword
    obtain ⟨rfl, rfl⟩ := hword
    rfl
  | rd a =>
    have hword : readWord a = encode .cmdSessionInit := by
      rw [← encode_decodeRead a, show decodeRead a = .cmdSessionInit from Except.ok.inj h]
    simp [readWord, encode, writeWord] at hword
  | svc b =>
    simp only [HostAccess.decoded, HostAccess.word, serviceWrite, decode, writeWord, decodeService] at h
    split at h
    · next hservice => split at hservice <;> simp_all
    · simp [decodeWrite] at h

theorem EngineEffect.completed_of_ctrlBit {s t : State} {r : Result} (he : EngineEffect s r) (hr : r = .next t)
    (hne : t.ctrlBit ≠ s.ctrlBit) : s.Completes t := by
  refine (he.txSource_or_completes hr).resolve_left fun hsame => hne ?_
  simp only [State.txSource, Prod.mk.injEq] at hsame
  obtain ⟨-, -, -, -, hctrl⟩ := hsame
  exact hctrl

/-- An accepted SESSION_INIT: CTRL_BIT changes only while not busy, to 0 (R217). -/
theorem exec_cmdSessionInit_ctrlBit {s t : State} (h : exec .cmdSessionInit s = .next t) (hne : t.ctrlBit ≠ s.ctrlBit) :
    s.st = .idle ∧ t.ctrlBit = false := by
  by_cases hidle : s.st = .idle
  · cases (exec_cmdSessionInit_of_idle hidle).symm.trans h
    exact ⟨hidle, rfl⟩
  · cases (exec_cmdSessionInit_of_busy hidle).symm.trans h
    exact absurd rfl hne

/-- Settles O54, by the agent: the host only by SESSION_INIT, the engine only by completion, and reset. -/
theorem controlBitChangesOnlyOnCompletion : Obligations.ControlBitChangesOnlyOnCompletion := by
  intro s t hstep hne
  obtain ⟨-, he⟩ | ⟨ts, hturn, he⟩ | ⟨ts, -, -, he⟩ | ⟨ts, a, q, i, u, hturn, hq, hi, he, -, -⟩ | ⟨ts, hturn, heffect⟩ :=
    step_cases s
  · cases he.symm.trans hstep
    exact absurd rfl hne
  · cases he.symm.trans hstep
    exact .inr (.inr ⟨ts, hturn, rfl⟩)
  · cases he.symm.trans hstep
    exact absurd rfl hne
  · have hexec := he.symm.trans hstep
    obtain ⟨j, hj, hhost⟩ := a.decoded_ok
    obtain rfl : j = i := Except.ok.inj (hj.symm.trans hi)
    have hinit : j = .cmdSessionInit := by_contra fun hother =>
      absurd (exec_host_ctrlBit hhost hother hexec) hne
    subst hinit
    obtain ⟨hidle, hclear⟩ := exec_cmdSessionInit_ctrlBit hexec hne
    rw [HostAccess.eq_of_decoded_sessionInit hi] at hq
    exact .inr (.inl ⟨ts, q, hturn, hq, hidle, hclear⟩)
  · obtain ⟨q, hst, hfinal, hq, rfl⟩ := heffect.completed_of_ctrlBit hstep hne
    exact .inl ⟨ts, q, hturn, hst, hfinal, hq, rfl, rfl, rfl⟩

end Sys2Proof.Machine
end


section
/-! The checksum units beside the engine (40_checksums R122): the engine's turn commutes with any change of what the units
hold. Each of its operations either moves other fields or asks other fields which way to go. -/

namespace Sys2Proof.Machine

/-- `s` with other values in the host's checksum units. -/
def State.withUnits (s : State) (c k : Half) (u : Byte) : State := { s with crcAcc := c, crcChk := k, tckSum := u }

/-- The same of the state a step answers. -/
def withUnitsResult (c k : Half) (u : Byte) : Result → Result
  | .next t => .next (t.withUnits c k u)
  | .fault f => .fault f
  | .refused r => .refused r

section
variable (s : State) (c k : Half) (u : Byte)

theorem State.withUnits_txFrameByte (i : Nat) : (s.withUnits c k u).txFrameByte i = s.txFrameByte i :=
  State.txFrameByte_congr s (s.withUnits c k u) rfl i

theorem State.withUnits_sentFrameByte : (s.withUnits c k u).sentFrameByte = s.sentFrameByte.withUnits c k u := by
  unfold State.sentFrameByte
  rw [apply_ite (State.withUnits · c k u)]
  rfl

theorem State.withUnits_sentAck : (s.withUnits c k u).sentAck = s.sentAck.withUnits c k u := by
  unfold State.sentAck
  rw [apply_ite (State.withUnits · c k u)]
  rfl

theorem State.withUnits_discardByte : (s.withUnits c k u).discardByte = s.discardByte.withUnits c k u := by
  obtain ⟨hleft, heq⟩ | ⟨hspent, hround, heq⟩ | ⟨hspent, hround, heq⟩ := s.discardByte_cases <;> rw [heq]
  · exact State.discardByte_of_lt (s := s.withUnits c k u) hleft
  · exact State.discardByte_of_roundLeft (s := s.withUnits c k u) hspent hround
  · exact State.discardByte_of_noRound (s := s.withUnits c k u) hspent hround

theorem State.withUnits_headerDone : (s.withUnits c k u).headerDone = s.headerDone.withUnits c k u := by
  obtain ⟨e, herr, heq⟩ | ⟨herr, heq⟩ := s.headerDone_cases <;> rw [heq]
  · exact State.headerDone_of_error (s := s.withUnits c k u) herr
  · exact State.headerDone_of_ok (s := s.withUnits c k u) herr

theorem State.withUnits_headerByte (b : Byte) : (s.withUnits c k u).headerByte b = (s.headerByte b).withUnits c k u := by
  unfold State.headerByte
  rw [apply_ite (State.withUnits · c k u), ← State.withUnits_headerDone]
  rfl

theorem State.withUnits_bodyByte (b : Byte) :
    (s.withUnits c k u).bodyByte b = withUnitsResult c k u (s.bodyByte b) := by
  unfold State.bodyByte
  rw [apply_ite (withUnitsResult c k u)]
  rfl

theorem State.withUnits_crcByte (b : Byte) : (s.withUnits c k u).crcByte b = (s.crcByte b).withUnits c k u := by
  unfold State.crcByte
  rw [apply_ite (State.withUnits · c k u)]
  rfl

theorem State.withUnits_validateFrag : (s.withUnits c k u).validateFrag = s.validateFrag.withUnits c k u := by
  unfold State.validateFrag
  rw [apply_ite (State.withUnits · c k u)]
  rfl

/-- A transmit asks the transport only (20_memory R74). -/
theorem State.withUnits_transmit (b : Byte) {g : State → State}
    (hg : ∀ s : State, g (s.withUnits c k u) = (g s).withUnits c k u) :
    (s.withUnits c k u).transmit b g = (s.transmit b g).withUnits c k u := by
  have hqueue : (s.withUnits c k u).env.txQ = s.env.txQ := rfl
  unfold State.transmit
  rw [hqueue]
  split
  · rfl
  · rfl
  · next q hq => exact hg (s.txSent b q)

/-- An instruction of the wire does the same whatever the units hold. -/
theorem exec_wire_withUnits {i : Instr} (h : onWire i = true) :
    exec i (s.withUnits c k u) = withUnitsResult c k u (exec i s) := by
  have hst : (s.withUnits c k u).st = s.st := rfl
  cases i
  case txFrame =>
    have hidx : (s.withUnits c k u).txIdx = s.txIdx := rfl
    simp only [exec, execTxFrame, hst, hidx, State.withUnits_txFrameByte]
    split
    · split
      · rw [State.withUnits_transmit s c k u _ fun s => s.withUnits_sentFrameByte c k u]
        rfl
      · rfl
    · rfl
  case txAck =>
    simp only [exec, execTxAck, hst, State.withUnits_transmit s c k u _ fun s => s.withUnits_sentAck c k u]
    split <;> rfl
  case txNak =>
    simp only [exec, execTxNak, hst, State.withUnits_transmit s c k u (g := State.sentNak) _ fun s => rfl]
    split <;> rfl
  case rxAck =>
    simp only [exec, execRxAck, hst]
    split <;> rfl
  case rxNak =>
    simp only [exec, execRxNak, hst]
    split <;> rfl
  case rxDiscard b =>
    simp only [exec, execRxDiscard, hst, State.withUnits_discardByte]
    split <;> rfl
  case rxFrame b =>
    simp only [exec, execRxFrame, hst, State.withUnits_headerByte, State.withUnits_bodyByte, State.withUnits_crcByte]
    split <;> rfl
  all_goals cases h

end

/-- A byte received decodes to an instruction of the wire (30_encoding R90). -/
theorem decode_rxFormat_onWire {st : SeqState} {b : Byte} {i : Instr} (h : decode ⟨st.rxFormat, [b]⟩ = .ok i) :
    onWire i = true := by
  cases st
  case awaitAck =>
    have hi : decodeAwait b = i := Except.ok.inj h
    rw [← hi, decodeAwait]
    split_ifs <;> rfl
  all_goals
    cases h
    rfl

section
variable (s : State) (c k : Half) (u : Byte)

theorem State.withUnits_fetchRx : (s.withUnits c k u).fetchRx.result = withUnitsResult c k u s.fetchRx.result := by
  have hqueue : (s.withUnits c k u).env.rxQ = s.env.rxQ := rfl
  have hst : (s.withUnits c k u).st = s.st := rfl
  unfold State.fetchRx
  rw [hqueue, hst]
  split
  · rfl
  · next b q hq =>
    split
    · next i hi => exact exec_wire_withUnits (s.tookRx q) c k u (decode_rxFormat_onWire hi)
    · rfl
  · rfl
  · rfl

theorem State.withUnits_fetchEngine :
    (s.withUnits c k u).fetchEngine.result = withUnitsResult c k u s.fetchEngine.result := by
  have hst : (s.withUnits c k u).st = s.st := rfl
  unfold State.fetchEngine
  rw [hst]
  split
  · rfl
  · exact exec_wire_withUnits s c k u (i := .txFrame) rfl
  · exact exec_wire_withUnits s c k u (i := .txNak) rfl
  · exact exec_wire_withUnits s c k u (i := .txAck) rfl
  · exact congrArg _ (s.withUnits_validateFrag c k u)
  all_goals exact s.withUnits_fetchRx c k u

theorem step_engine_withUnits {ts : List Turn} (hturn : s.env.turns = .engine :: ts) :
    step (s.withUnits c k u) = withUnitsResult c k u (step s) := by
  have hturn' : (s.withUnits c k u).env.turns = .engine :: ts := hturn
  rw [step_eq, step_eq, State.fetch, State.fetch, hturn, hturn']
  exact (s.tookTurn ts).withUnits_fetchEngine c k u

end

/-- Settles O56: the engine's step commutes with the change, and with the units as they are it changes nothing, so the
step itself leaves them alone. -/
theorem engineIndependentOfChecksumUnits : Obligations.EngineIndependentOfChecksumUnits := by
  intro s t ts c k u hturn hstep
  have hcommutes : ∀ c k u, step (s.withUnits c k u) = .next (t.withUnits c k u) := fun c k u => by
    rw [step_engine_withUnits s c k u hturn, hstep]
    rfl
  have hkept : t.withUnits s.crcAcc s.crcChk s.tckSum = t :=
    Host.Outcome.next.inj ((hcommutes s.crcAcc s.crcChk s.tckSum).symm.trans hstep)
  refine ⟨?_, hcommutes c k u⟩
  rw [← hkept]
  exact ⟨rfl, rfl, rfl⟩

end Sys2Proof.Machine
end

section
/-! Error entry of a running exchange (60_exceptions R251, R265): which fields may differ from the state the step started
in, found once for all the engine's ways to raise an error. -/

namespace Sys2Proof.Machine

/-- What an error entry may write: ERR, ERR_CODE and the state; HDR and CALCCRC, where the failing rule writes them first
(R265); internal registers; and the queues of the environment, not the line. -/
inductive ErrorEntry (s : State) : State → Prop where
  | entered (c : ErrorCode) (hdr : Header) (calcCrc rxAcc : Half) (hdrIdx discCnt : Nat) (more : Bool)
      (turns : List Turn) (txQ : List TxAnswer) (rxQ : List RxAnswer) :
      ErrorEntry s { s with
        errCode := errorByte s.st c, err := true, st := .idle, hdr, calcCrc, rxAcc, hdrIdx, discCnt, more,
        env := { s.env with turns, txQ, rxQ } }

/-- While busy no host instruction sets ERR. -/
theorem HostEffect.err_of_busy {s t : State} (hbusy : s.st ≠ .idle) (he : HostEffect s t) (herr : s.err = false) :
    t.err = false := by
  cases he with
  | flagsCleared => rfl
  | pushed d hidle => exact absurd hidle hbusy
  | tooLong hidle _ => exact absurd hidle hbusy
  | accepted hidle _ => exact absurd hidle hbusy
  | sessionInit hidle => exact absurd hidle hbusy
  | _ => exact herr

/-- What the environment held before the error does not matter, but for the line. -/
theorem ErrorEntry.of_tookTurn {s t : State} {ts : List Turn} (h : ErrorEntry (s.tookTurn ts) t) : ErrorEntry s t := by
  obtain ⟨c, hdr, calcCrc, rxAcc, hdrIdx, discCnt, more, turns, txQ, rxQ⟩ := h
  exact .entered c hdr calcCrc rxAcc hdrIdx discCnt more turns txQ rxQ

theorem ErrorEntry.of_tookRx {s t : State} {q : List RxAnswer} (h : ErrorEntry (s.tookRx q) t) : ErrorEntry s t := by
  obtain ⟨c, hdr, calcCrc, rxAcc, hdrIdx, discCnt, more, turns, txQ, rxQ⟩ := h
  exact .entered c hdr calcCrc rxAcc hdrIdx discCnt more turns txQ rxQ

theorem State.raiseError_errorEntry (s : State) (c : ErrorCode) : ErrorEntry s (s.raiseError c) :=
  .entered c s.hdr s.calcCrc s.rxAcc s.hdrIdx s.discCnt s.more s.env.turns s.env.txQ s.env.rxQ

theorem State.sentFrameByte_err (s : State) : s.sentFrameByte.err = s.err := by
  obtain ⟨-, heq⟩ | ⟨-, heq⟩ := s.sentFrameByte_cases <;> rw [heq]

theorem State.discardByte_errorEntry (s : State) : s.discardByte.err = s.err ∨ ErrorEntry s s.discardByte := by
  obtain ⟨-, heq⟩ | ⟨-, -, heq⟩ | ⟨-, -, heq⟩ := s.discardByte_cases <;> rw [heq]
  · exact .inl rfl
  · exact .inl rfl
  · exact .inr (.entered .noAck s.hdr s.calcCrc s.rxAcc s.hdrIdx (s.discCnt + 1) s.more s.env.turns s.env.txQ s.env.rxQ)

theorem State.headerByte_errorEntry (s : State) (b : Byte) :
    (s.headerByte b).err = s.err ∨ ErrorEntry s (s.headerByte b) := by
  obtain ⟨-, heq⟩ | ⟨-, heq⟩ := s.headerByte_cases b <;> rw [heq]
  · exact .inl rfl
  · obtain ⟨c, -, hdone⟩ | ⟨-, hdone⟩ := (s.tookHeaderByte b).headerDone_cases <;> rw [hdone]
    · exact .inr (.entered c (s.hdr.set s.hdrIdx b) s.calcCrc (crcStep s.rxAcc b) (s.hdrIdx + 1) s.discCnt
        (s.hdr.set s.hdrIdx b).moreFlag s.env.turns s.env.txQ s.env.rxQ)
    · exact .inl rfl

theorem State.bodyByte_err {s t : State} {b : Byte} (h : s.bodyByte b = .next t) : t.err = s.err := by
  obtain ⟨-, heq⟩ | ⟨-, heq⟩ := s.bodyByte_cases b <;> rw [heq] at h <;> cases h
  rfl

theorem State.crcByte_err (s : State) (b : Byte) : (s.crcByte b).err = s.err := by
  obtain ⟨-, heq⟩ | ⟨-, heq⟩ := s.crcByte_cases b <;> rw [heq]

theorem State.validateFrag_errorEntry (s : State) : s.validateFrag.err = s.err ∨ ErrorEntry s s.validateFrag := by
  obtain ⟨-, heq⟩ | ⟨-, heq⟩ := s.validateFrag_cases <;> rw [heq]
  · exact .inl rfl
  · exact .inr (.entered .crcMismatch s.hdr s.fragCrc s.rxAcc s.hdrIdx s.discCnt s.more s.env.turns s.env.txQ s.env.rxQ)

/-- An engine step leaves ERR alone or is an error entry. -/
theorem EngineEffect.err_or_errorEntry {s t : State} {r : Result} (he : EngineEffect s r) (hr : r = .next t) :
    t.err = s.err ∨ ErrorEntry s t := by
  cases he with
  | sendFault f _ _ => cases hr
  | txIoErr q _ _ =>
    cases hr
    exact .inr (.entered .ioError s.hdr s.calcCrc s.rxAcc s.hdrIdx s.discCnt s.more s.env.turns q s.env.rxQ)
  | sentFrameByte b q _ _ _ => cases hr; exact .inl (State.sentFrameByte_err _)
  | timedOut q _ _ => cases hr; exact .inr (State.raiseError_errorEntry _ _).of_tookRx
  | rxIoErr q _ _ => cases hr; exact .inr (State.raiseError_errorEntry _ _).of_tookRx
  | naked q _ _ => cases hr; exact .inr (State.raiseError_errorEntry _ _).of_tookRx
  | discarded b q _ _ _ _ => cases hr; exact (State.discardByte_errorEntry _).imp_right ErrorEntry.of_tookRx
  | headerByte b q _ _ => cases hr; exact (State.headerByte_errorEntry _ b).imp_right ErrorEntry.of_tookRx
  | bodyByte b q _ _ => exact .inl (State.bodyByte_err (s := s.tookRx q) hr)
  | crcByte b q _ _ => cases hr; exact .inl (State.crcByte_err _ b)
  | validated _ => cases hr; exact s.validateFrag_errorEntry
  | _ => cases hr; exact .inl rfl

theorem step_errorEntry {s t : State} (hstep : step s = .next t) (hs : s.err = false) (ht : t.err = true)
    (hbusy : s.st ≠ .idle) : ErrorEntry s t := by
  have hne : t.err ≠ false := by simp [ht]
  obtain ⟨-, he⟩ | ⟨ts, -, he⟩ | ⟨ts, -, -, he⟩ | ⟨ts, a, q, i, u, -, -, -, -, he, heffect⟩ | ⟨ts, -, heffect⟩ := step_cases s
  · cases he.symm.trans hstep
    exact absurd hs hne
  · cases he.symm.trans hstep
    exact absurd rfl hne
  · cases he.symm.trans hstep
    exact absurd hs hne
  · cases he.symm.trans hstep
    exact absurd (HostEffect.err_of_busy (s := (s.tookTurn ts).tookAccess q) hbusy heffect hs) hne
  · obtain hsame | hentry := heffect.err_or_errorEntry hstep
    · exact absurd (hsame.trans hs) hne
    · exact hentry.of_tookTurn

/-- CODE is one of R250's. -/
theorem ErrorCode.code_range (c : ErrorCode) : 1 ≤ c.code.toNat ∧ c.code.toNat ≤ 7 := by cases c <;> decide

/-- Settles O57: the step is an error entry, which writes none of the fields listed; ERR_CODE is the state and the code. -/
theorem errorEntryKeepsTheRest : Obligations.ErrorEntryKeepsTheRest := by
  intro s t hstep hs ht hbusy
  obtain ⟨c, hdr, calcCrc, rxAcc, hdrIdx, discCnt, more, turns, txQ, rxQ⟩ :=
    step_errorEntry hstep hs ht (s.busy_eq_true.mp hbusy)
  obtain ⟨hlow, hhigh⟩ := c.code_range
  have hbyte := errorByte_toNat s.st c
  refine ⟨rfl, ?_, ?_, ?_, rfl, rfl, rfl, rfl, rfl, rfl, rfl, rfl, rfl, rfl, rfl, rfl, rfl, rfl, rfl, rfl, rfl⟩ <;>
    simp only [hbyte] <;> omega

end Sys2Proof.Machine
end

section
/-! Decode before Encode (41_framer R133, R130): what an accepted frame's bytes are, and that Encode gives them back. -/

namespace Sys2Proof.Machine

/-- The conditions under which Decode accepts, and what it reads (R133). -/
theorem decodeFrame_eq_ok {f : List Byte} {r : Request} (h : decodeFrame f = .ok r) :
    ∃ n, f.getD 0 0#8 = Config.stp ∧ (pair (f.getD 4 0#8) (f.getD 5 0#8)).toNat = n + 1 ∧ f.length = n + 9 ∧
      verifyCrc (f.take (n + 7)) (f.getD (n + 7) 0#8) (f.getD (n + 8) 0#8) = true ∧
      r = ⟨f.getD 6 0#8, (f.drop 7).take n, (f.getD 2 0#8).getLsbD 5, f.getD 3 0#8⟩ := by
  unfold decodeFrame at h
  split at h
  · cases h
  split at h
  · cases h
  next hstp =>
  dsimp only at h
  generalize hlen : (pair (f.getD 4 0#8) (f.getD 5 0#8)).toNat = len at h
  split at h
  · cases h
  split at h
  · cases h
  split at h
  · cases h
  next hcrc =>
  split at h
  · cases h
  next hzero =>
  obtain ⟨n, rfl⟩ : ∃ n, len = n + 1 := ⟨len - 1, by omega⟩
  cases h
  refine ⟨n, by simpa using hstp, rfl, by omega, ?_, rfl⟩
  have hcut : 6 + (n + 1) = n + 7 := by omega
  have hlast : 7 + (n + 1) = n + 8 := by omega
  simpa [hcut, hlast] using hcrc

/-- A list of `n + 9` bytes as a frame: seven bytes of head, `n` of payload, two of trailer. -/
theorem frame_split {f : List Byte} {n : Nat} (h : f.length = n + 9) :
    ∃ b0 b1 b2 b3 b4 b5 b6 p t0 t1, f = [b0, b1, b2, b3, b4, b5, b6] ++ p ++ [t0, t1] ∧ p.length = n := by
  match f, h with
  | b0 :: b1 :: b2 :: b3 :: b4 :: b5 :: b6 :: rest, h =>
    have hrest : rest.length = n + 2 := by simpa using h
    have htrailer : (rest.drop n).length = 2 := by rw [List.length_drop, hrest]; omega
    obtain ⟨t0, t1, ht⟩ := List.length_eq_two.mp htrailer
    refine ⟨b0, b1, b2, b3, b4, b5, b6, rest.take n, t0, t1, ?_, by rw [List.length_take, hrest]; omega⟩
    rw [← ht, List.append_assoc, List.take_append_drop]
    rfl

/-- The two control bytes of a request are those of its control bit (R83). -/
theorem controlByte_of_getLsbD {b : Byte} (h : b = 0x00#8 ∨ b = 0x20#8) : controlByte (b.getLsbD 5) = b := by
  obtain rfl | rfl := h <;> rfl

/-- A trailer that verifies is the one Encode appends (R88, R113). -/
theorem trailer_of_verifyCrc {body : List Byte} {t0 t1 : Byte} (h : verifyCrc body t0 t1 = true) :
    trailer body = [t0, t1] := by
  rw [trailer, (verifyCrc_iff body t0 t1).mp h, lo_pair, hi_pair]

/-- A verified body and trailer, cut apart again where they were joined. -/
theorem trailer_of_verifyCrc_append {body : List Byte} {t0 t1 : Byte} {n : Nat} (hn : n = body.length)
    (h : verifyCrc ((body ++ [t0, t1]).take n) ((body ++ [t0, t1]).getD n 0#8) ((body ++ [t0, t1]).getD (n + 1) 0#8) = true) :
    trailer body = [t0, t1] := by
  subst hn
  have hlow : (body ++ [t0, t1]).getD body.length 0#8 = t0 := by simp [List.getD]
  have hhigh : (body ++ [t0, t1]).getD (body.length + 1) 0#8 = t1 := by simp [List.getD]
  rw [List.take_left, hlow, hhigh] at h
  exact trailer_of_verifyCrc h

/-- Settles O13: an accepted frame cut into head, payload and trailer is the frame Encode builds from the same parts. -/
theorem decodedFrameEncodesBack : Obligations.DecodedFrameEncodesBack := by
  intro f r hdecode hlen hident hctrl
  obtain ⟨n, hstp, hfield, hlength, hcrc, rfl⟩ := decodeFrame_eq_ok hdecode
  obtain ⟨b0, b1, b2, b3, b4, b5, b6, p, t0, t1, rfl, rfl⟩ := frame_split hlength
  have hfits : p.length ≤ Config.txCap := by unfold Config.txCap; omega
  have hbody : frameBody b6 p (b2.getLsbD 5) b3 = [b0, b1, b2, b3, b4, b5, b6] ++ p := by
    have hlenfield : BitVec.ofNat 16 (p.length + 1) = pair b4 b5 :=
      BitVec.eq_of_toNat_eq ((lengthField_toNat hfits).trans hfield.symm)
    have hctrlbyte : controlByte (b2.getLsbD 5) = b2 := controlByte_of_getLsbD hctrl
    obtain rfl : b0 = Config.stp := hstp
    obtain rfl : b1 = Config.ident := hident
    rw [frameBody, frameHead, hlenfield, hi_pair, lo_pair, hctrlbyte]
  have hcut : p.length + 7 = ([b0, b1, b2, b3, b4, b5, b6] ++ p).length := by simp
  have hpayload : (p ++ [t0, t1]).take p.length = p := List.take_left
  calc encodeFrame b6 ((p ++ [t0, t1]).take p.length) (b2.getLsbD 5) b3
    _ = some (frameBody b6 p (b2.getLsbD 5) b3 ++ trailer (frameBody b6 p (b2.getLsbD 5) b3)) := by
      rw [hpayload, encodeFrame_of_le_txCap hfits]
    _ = some ([b0, b1, b2, b3, b4, b5, b6] ++ p ++ [t0, t1]) := by rw [hbody, trailer_of_verifyCrc_append hcut hcrc]

end Sys2Proof.Machine
end

section
/-! The request on the wire (41_framer R132): with its payload written, TxFrame read byte by byte is Encode's frame. -/

namespace Sys2Proof.Machine

/-- `p` is the payload of the request: TX_PLEN bytes, within TXCAP, written in TX_BUF from index 0 on (R28). -/
structure State.Payload (s : State) (p : List Byte) : Prop where
  length : p.length = s.txPlen.toNat
  fits : p.length ≤ Config.txCap
  written : ∀ j b, p[j]? = some b → s.txBuf.read j = some b

/-- The frame Encode gives for the request `p`. -/
def State.requestFrame (s : State) (p : List Byte) : List Byte :=
  frameBody s.svc p s.ctrlBit s.seq ++ trailer (frameBody s.svc p s.ctrlBit s.seq)

section
variable {s : State} {p : List Byte}

theorem State.Payload.encodeFrame (h : s.Payload p) : encodeFrame s.svc p s.ctrlBit s.seq = some (s.requestFrame p) :=
  encodeFrame_of_le_txCap h.fits s.svc s.ctrlBit s.seq

theorem State.requestFrame_length (s : State) (p : List Byte) : (s.requestFrame p).length = p.length + 9 := by
  simp [State.requestFrame]

theorem State.Payload.frameLen (h : s.Payload p) : s.frameLen = (s.requestFrame p).length := by
  rw [State.requestFrame_length, h.length, State.frameLen]

/-- The head and the payload are all of the frame that the CRC covers. -/
theorem State.Payload.txHead_append (h : s.Payload p) : s.txHead ++ p = frameBody s.svc p s.ctrlBit s.seq := by
  have hlen : s.txPlen + 1#16 = BitVec.ofNat 16 (p.length + 1) := by
    rw [h.length, BitVec.ofNat_add, BitVec.ofNat_toNat, BitVec.setWidth_eq]
  rw [State.txHead, frameBody, hlen]

theorem State.Payload.requestFrame_eq (h : s.Payload p) :
    s.requestFrame p = s.txHead ++ (p ++ trailer (frameBody s.svc p s.ctrlBit s.seq)) := by
  rw [State.requestFrame, ← List.append_assoc, h.txHead_append]

theorem State.Payload.txCrc (h : s.Payload p) : s.txCrc = .ok (crc16 (frameBody s.svc p s.ctrlBit s.seq)) := by
  have hread : s.payload = .ok p := by
    rw [State.payload, ← h.length]
    exact s.txBytes_eq p 0 (by simpa using h.fits) (by simpa using h.written)
  rw [State.txCrc, hread]
  simp only [h.txHead_append]

/-- Each byte of the frame, by its part: head, payload, and the two bytes of the trailer. -/
theorem State.Payload.txFrameByte (h : s.Payload p) {j : Nat} {b : Byte} (hj : (s.requestFrame p)[j]? = some b) :
    s.txFrameByte j = .ok b := by
  have hhead : s.txHead.length = 7 := rfl
  have hlen := h.length
  have hlt : j < p.length + 9 := s.requestFrame_length p ▸ (List.getElem?_eq_some_iff.mp hj).1
  rw [h.requestFrame_eq] at hj
  obtain ⟨h7, heq⟩ | ⟨h7, hp, heq⟩ | ⟨rfl, heq⟩ | ⟨rfl, heq⟩ | ⟨hpast, -⟩ := s.txFrameByte_cases j
  · rw [List.getElem?_append_left (by omega)] at hj
    rw [heq, List.getD_eq_getElem?_getD, hj]
    rfl
  · rw [List.getElem?_append_right (by omega), List.getElem?_append_left (by omega)] at hj
    exact heq.trans ((s.txRead_ok_iff _ b).mpr ⟨by have := h.fits; omega, h.written _ b hj⟩)
  · rw [List.getElem?_append_right (by omega), List.getElem?_append_right (by omega)] at hj
    have hfirst : 7 + s.txPlen.toNat - s.txHead.length - p.length = 0 := by omega
    rw [hfirst] at hj
    rw [heq, h.txCrc]
    exact congrArg Except.ok (Option.some.inj hj)
  · rw [List.getElem?_append_right (by omega), List.getElem?_append_right (by omega)] at hj
    have hsecond : 8 + s.txPlen.toNat - s.txHead.length - p.length = 1 := by omega
    rw [hsecond] at hj
    rw [heq, h.txCrc]
    exact congrArg Except.ok (Option.some.inj hj)
  · unfold State.frameLen at hpast
    omega

end

/-- Settles O14: what the engine would send at an index is what Encode's frame has there. -/
theorem transmitFrameIsEncoded : Obligations.TransmitFrameIsEncoded := by
  intro s p hcap hlen hwritten
  have h : s.Payload p := ⟨hlen, hlen.trans_le hcap, hwritten⟩
  exact ⟨s.requestFrame p, h.encodeFrame, (s.requestFrame_length p).trans (by rw [hlen]), fun j b hj => h.txFrameByte hj⟩

end Sys2Proof.Machine
end

section
/-! A byte sequence fed to the checksum units (40_checksums R117 to R121): the accumulators after the writes of a list, by
induction on the list, and CRC_OK for a trailer written to CRC_CHK. -/

namespace Sys2Proof.Machine

theorem execAll_cons {i : Instr} {s t : State} (h : exec i s = .next t) (is : List Instr) :
    execAll (i :: is) s = execAll is t := by
  simp only [execAll, h]

theorem execAll_append {is : List Instr} {s t : State} (h : execAll is s = .next t) (js : List Instr) :
    execAll (is ++ js) s = execAll js t := by
  induction is generalizing s with
  | nil =>
    cases h
    rfl
  | cons i is ih =>
    simp only [List.cons_append, execAll] at h ⊢
    split at h
    · next u hu => exact ih h
    · cases h
    · cases h

theorem execAll_wrCrcData (s : State) (bs : List Byte) :
    execAll (bs.map .wrCrcData) s = .next { s with crcAcc := crcFeed s.crcAcc bs } := by
  induction bs generalizing s with
  | nil => rfl
  | cons b bs ih => rw [List.map_cons, execAll_cons (exec_wrCrcData s b), ih, crcFeed_cons]

theorem execAll_wrTckData (s : State) (bs : List Byte) :
    execAll (bs.map .wrTckData) s = .next { s with tckSum := tckFeed s.tckSum bs } := by
  induction bs generalizing s with
  | nil => rfl
  | cons b bs ih => rw [List.map_cons, execAll_cons (exec_wrTckData s b), ih, tckFeed_cons]

theorem execAll_crcUnit (s : State) (bs : List Byte) :
    execAll (.cmdCrcInit :: bs.map .wrCrcData) s = .next { s with crcAcc := crcFeed 0xFFFF#16 bs } := by
  rw [execAll_cons (exec_cmdCrcInit s), execAll_wrCrcData]

theorem execAll_tckUnit (s : State) (bs : List Byte) :
    execAll (.cmdTckInit :: bs.map .wrTckData) s = .next { s with tckSum := tckFeed 0x00#8 bs } := by
  rw [execAll_cons (exec_cmdTckInit s), execAll_wrTckData]

theorem setHi_setLo (v : Half) (t0 t1 : Byte) : setHi (setLo v t0) t1 = pair t1 t0 := by
  rw [setHi, setLo, lo_pair]

/-- FLAGS2 read after both bytes of CRC_CHK are written (R119, R238). -/
theorem execAll_readCrcOk (s : State) (t0 t1 : Byte) :
    execAll [.wrCrcChkLo t0, .wrCrcChkHi t1, .rdFlags2] s =
      .next (State.returns { s with crcChk := pair t1 t0 } (State.flags2 { s with crcChk := pair t1 t0 })) := by
  rw [← setHi_setLo s.crcChk t0 t1]
  rfl

/-- CRC_OK is bit 0 of FLAGS2 (R38). -/
theorem State.flags2_getLsbD_zero (s : State) : s.flags2.getLsbD 0 = s.crcOk := by
  rw [State.flags2]
  generalize s.rxUnf = b3, s.txOvf = b2, s.ign = b1, s.crcOk = b0
  revert b3 b2 b1 b0
  decide

/-- Settles O32: the accumulator after the writes is the function's own, and CRC_OK compares its result with the trailer. -/
theorem checksumUnitsComputeChecksums : Obligations.ChecksumUnitsComputeChecksums := by
  intro s bs t0 t1
  refine ⟨⟨_, execAll_crcUnit s bs, rfl, rfl⟩, ⟨_, execAll_tckUnit s bs, rfl, rfl⟩, ?_⟩
  refine ⟨_, (execAll_append (execAll_crcUnit s bs) _).trans (execAll_readCrcOk _ t0 t1), ?_⟩
  rw [State.returns_rdata, State.flags2_getLsbD_zero]
  rfl

end Sys2Proof.Machine
end

section
/-! What a step runs (43_host_interface R210, 42_link_sequencer R160, 30_encoding R90): the instruction of the host's access,
of the byte received, or of the transmit state; and the steps that move nothing. -/

namespace Sys2Proof.Machine

/-- Settles O4: the decoder evaluated at the nine words. -/
theorem sampleWordsDecode : Obligations.SampleWordsDecode := by
  unfold Obligations.SampleWordsDecode
  decide

theorem HostAccess.decoded_of_word {a : HostAccess} {i : Instr} (h : decode a.word = .ok i) : a.decoded = .ok i := by
  simp only [HostAccess.decoded, h]

/-- A service code without a row is a plain write of SVC (R226). -/
theorem HostAccess.decoded_of_unnamed {b : Byte} {e : DecodeError} (h : decode (HostAccess.svc b).word = .error e) :
    (HostAccess.svc b).decoded = .ok (.wrSvc b) := by
  simp only [HostAccess.decoded, h]
  rfl

theorem step_host {s : State} {ts : List Turn} {a : HostAccess} {q : List HostAccess} {i : Instr}
    (hturn : s.env.turns = .host :: ts) (hq : s.env.hostQ = a :: q) (hi : a.decoded = .ok i) :
    step s = exec i ((s.tookTurn ts).tookAccess q) := by
  have hq' : (s.tookTurn ts).env.hostQ = a :: q := hq
  rw [step_eq, State.fetch, hturn]
  simp only [State.fetchHost, hq', hi, Fetched.result]

/-- Settles O5: the access decodes as it stands, or as the write of SVC. -/
theorem hostStepRunsAccess : Obligations.HostStepRunsAccess := by
  intro s ts a q hturn hq
  refine ⟨fun i hi => step_host hturn hq (HostAccess.decoded_of_word hi), fun b e ha he => ?_⟩
  subst ha
  exact step_host hturn hq (HostAccess.decoded_of_unnamed he)

theorem step_engine {s : State} {ts : List Turn} (hturn : s.env.turns = .engine :: ts) :
    step s = (s.tookTurn ts).fetchEngine.result := by
  rw [step_eq, State.fetch, hturn]

theorem step_send {s : State} {ts : List Turn} (hturn : s.env.turns = .engine :: ts) (hst : s.st = .send) :
    step s = exec .txFrame (s.tookTurn ts) := by
  rw [step_engine hturn, State.fetchEngine, State.tookTurn_st, hst]
  rfl

theorem step_sendNak {s : State} {ts : List Turn} (hturn : s.env.turns = .engine :: ts) (hst : s.st = .sendNak) :
    step s = exec .txNak (s.tookTurn ts) := by
  rw [step_engine hturn, State.fetchEngine, State.tookTurn_st, hst]
  rfl

theorem step_sendAck {s : State} {ts : List Turn} (hturn : s.env.turns = .engine :: ts) (hst : s.st = .sendAck) :
    step s = exec .txAck (s.tookTurn ts) := by
  rw [step_engine hturn, State.fetchEngine, State.tookTurn_st, hst]
  rfl

/-- A byte received runs the instruction it decodes to in the state's format (R90). -/
theorem step_byte {s : State} {ts : List Turn} {b : Byte} {q : List RxAnswer} {i : Instr} (hreq : s.rxReq = true)
    (hturn : s.env.turns = .engine :: ts) (hq : s.env.rxQ = .byte b :: q) (hi : decode ⟨s.st.rxFormat, [b]⟩ = .ok i) :
    step s = exec i ((s.tookTurn ts).tookRx q) := by
  have hq' : (s.tookTurn ts).env.rxQ = .byte b :: q := hq
  rw [step_receive hreq hturn]
  simp only [State.fetchRx, hq', State.tookTurn_st, hi, Fetched.result]

theorem step_awaitAck {s : State} {ts : List Turn} {b : Byte} {q : List RxAnswer} {i : Instr} (hst : s.st = .awaitAck)
    (hturn : s.env.turns = .engine :: ts) (hq : s.env.rxQ = .byte b :: q) (hi : decode ⟨.rxAwait, [b]⟩ = .ok i) :
    step s = exec i ((s.tookTurn ts).tookRx q) :=
  step_byte (by simp [State.rxReq, hst]) hturn hq (by rw [hst]; exact hi)

/-- In the READ states every byte is frame content. -/
theorem step_read {s : State} {ts : List Turn} {b : Byte} {q : List RxAnswer}
    (hst : s.st = .readHeader ∨ s.st = .readBody ∨ s.st = .readCrc) (hturn : s.env.turns = .engine :: ts)
    (hq : s.env.rxQ = .byte b :: q) : step s = exec (.rxFrame b) ((s.tookTurn ts).tookRx q) := by
  refine step_byte ?_ hturn hq ?_
  · simp only [State.rxReq, Bool.or_eq_true, beq_iff_eq]
    tauto
  · obtain hst | hst | hst := hst <;> rw [hst] <;> rfl

/-- Settles O6, by the engine's state. -/
theorem engineStepRunsInstruction : Obligations.EngineStepRunsInstruction := by
  intro s ts hturn
  refine ⟨fun b q i hq hst hi => ?_, fun b q hq hst => ?_, fun hst => ?_, fun hst => ?_, fun hst => ?_⟩
  · exact step_awaitAck hst hturn hq hi
  · have hread := step_read hst hturn hq
    exact hread
  · exact step_send hturn hst
  · exact step_sendNak hturn hst
  · exact step_sendAck hturn hst

theorem step_idle {s : State} {ts : List Turn} (hturn : s.env.turns = .engine :: ts) (hst : s.st = .idle) :
    step s = .next (s.tookTurn ts) := by
  rw [step_engine hturn, State.fetchEngine, State.tookTurn_st, hst]
  rfl

theorem State.transmit_waits {s : State} (hq : s.env.txQ = []) (b : Byte) (k : State → State) : s.transmit b k = s := by
  simp only [State.transmit, hq]

theorem State.fetchRx_waits {s : State} (hq : s.env.rxQ = []) : s.fetchRx = .moved s := by
  simp only [State.fetchRx, hq]

/-- Settles O47: each turn is taken, and the state it leaves is the one it found. -/
theorem idleEngineDoesNothing : Obligations.IdleEngineDoesNothing := by
  intro s ts
  refine ⟨fun hturn hst => ?_, fun hturn hreq hq => ?_, fun b hturn hst hb hq => ?_, fun hturn hst hq => ?_, fun hnone => ?_⟩
  · exact step_idle hturn hst
  · have hq' : (s.tookTurn ts).env.rxQ = [] := hq
    rw [step_receive hreq hturn, State.fetchRx_waits hq']
    rfl
  · have hst' : (s.tookTurn ts).st = .send := hst
    have hb' : (s.tookTurn ts).txFrameByte (s.tookTurn ts).txIdx.toNat = .ok b := (s.tookTurn_txFrameByte ts _).trans hb
    have hq' : (s.tookTurn ts).env.txQ = [] := hq
    rw [step_send hturn hst, exec_txFrame hst' hb', State.transmit_waits hq']
    rfl
  · have hq' : (s.tookTurn ts).env.txQ = [] := hq
    obtain hst | hst := hst
    · have hst' : (s.tookTurn ts).st = .sendNak := hst
      rw [step_sendNak hturn hst, exec_txNak hst', State.transmit_waits hq']
      rfl
    · have hst' : (s.tookTurn ts).st = .sendAck := hst
      rw [step_sendAck hturn hst, exec_txAck hst', State.transmit_waits hq']
      rfl
  · rw [step_eq, State.fetch, hnone]
    rfl

/-! The words of the opcode table (log 11, 12). -/

/-- The four forms of a placed word. -/
theorem tableWord_cases {nbits w : Nat} {c : CodeWord} (h : tableWord nbits w = some c) :
    (∃ d a, c = ⟨.hostWr, [d, a]⟩) ∨ (∃ b, c = ⟨.payloadSvc, [b]⟩) ∨ (∃ b, c = ⟨.rxAwait, [b]⟩) ∨
      ∃ b, c = ⟨.rxFrame, [b]⟩ := by
  unfold tableWord at h
  dsimp only at h
  split_ifs at h <;> cases h
  · exact .inr (.inl ⟨_, rfl⟩)
  · exact .inr (.inr (.inr ⟨_, rfl⟩))
  · exact .inr (.inr (.inl ⟨_, rfl⟩))
  · exact .inl ⟨_, _, rfl⟩

theorem decodeTableWord_eq_some {nbits w : Nat} {i : Instr} (h : decodeTableWord nbits w = some i) :
    ∃ c, tableWord nbits w = some c ∧ decode c = .ok i := by
  unfold decodeTableWord at h
  split at h
  · next c hc =>
    refine ⟨c, hc, ?_⟩
    cases hd : decode c with
    | ok j => rw [hd] at h; exact congrArg _ (Option.some.inj h)
    | error e => rw [hd] at h; cases h
  · cases h

/-- A received byte placed in front is what the next step runs, in the state that takes it. -/
theorem step_placeByte (s : State) {st : SeqState} {b : Byte} {i : Instr} (hreq : (s.placeByte st b).rxReq = true)
    (hi : decode ⟨st.rxFormat, [b]⟩ = .ok i) : step (s.placeByte st b) = exec i { s with st := st } :=
  step_byte hreq rfl rfl hi

/-- Settles O7, by the four forms of a placed word. -/
theorem placedWordRunsNext : Obligations.PlacedWordRunsNext := by
  intro s nbits w i h
  obtain ⟨c, hc, hi⟩ := decodeTableWord_eq_some h
  have hplaced : s.withFetchWord nbits w = s.placeWord c := by simp only [State.withFetchWord, hc]
  refine ⟨c, hc, hi, ?_⟩
  rw [hplaced]
  obtain ⟨d, a, rfl⟩ | ⟨b, rfl⟩ | ⟨b, rfl⟩ | ⟨b, rfl⟩ := tableWord_cases hc
  · exact ⟨step_placeAccess s (.wr a d) i (HostAccess.decoded_of_word hi), .inl ⟨.inl rfl, rfl⟩⟩
  · exact ⟨step_placeAccess s (.svc b) i (HostAccess.decoded_of_word hi), .inl ⟨.inr rfl, rfl⟩⟩
  · exact ⟨step_placeByte s rfl hi, .inr (.inl ⟨rfl, rfl⟩)⟩
  · exact ⟨step_placeByte s rfl hi, .inr (.inr ⟨rfl, rfl⟩)⟩

/-! Reset (70_reset R280 to R283). -/

/-- Settles O48: the reset step is `State.resetBlock`, whose fields are the reset values. -/
theorem resetStepRestoresRegisters : Obligations.ResetStepRestoresRegisters := by
  intro s ts hturn
  rw [step_eq, State.fetch, hturn]
  rfl

theorem Config.params_ok : Config.params.ok = true := by
  have hdiscard : 1 ≤ Config.params.nDiscard := Nat.le_add_left 1 Config.nDiscardPred
  have hcap : Config.maxData ≤ Config.params.reasmCap.toNat := by decide
  simp [Params.ok, hdiscard, hcap]

/-- Settles O49: the reset state is what a reset leaves of itself, in IDLE. -/
theorem resetMeetsInvariant : Obligations.ResetMeetsInvariant :=
  ⟨(State.regInv_reset (s := State.reset) Config.params_ok).inv_of_idle rfl, .of_not_receiving rfl⟩

end Sys2Proof.Machine
end

section
/-! Register accesses of the host (43_host_interface R224 to R232, R238): the reads of the request and response registers,
the writes allowed in every state, and those of the TX group by whether the block is busy. -/

namespace Sys2Proof.Machine

/-- Settles O22: each read answers `State.returns` of its register, `_LO` and `_HI` as numbers. -/
theorem requestResponseReads : Obligations.RequestResponseReads := by
  intro s
  simp only [← lo_eq_ofNat, ← hi_eq_ofNat]
  exact ⟨rfl, rfl, rfl, rfl, rfl, rfl, rfl, rfl, rfl, rfl, rfl, rfl⟩

theorem getLsbD_zero_eq (d : Byte) : d.getLsbD 0 = decide (d.toNat % 2 = 1) := by
  rw [BitVec.getLsbD, Nat.testBit_zero]

/-- Settles O26: IRQ_EN is bit 0 of the byte, and the halves of the registers are written alone. -/
theorem alwaysWritableRegisters : Obligations.AlwaysWritableRegisters := by
  intro s d
  rw [← getLsbD_zero_eq, ← setLo_eq, ← setHi_eq, ← setLo_eq, ← setHi_eq]
  exact ⟨rfl, rfl, rfl, rfl, rfl⟩

section
variable (s : State) (d : Byte)

theorem exec_wrSeq : exec (.wrSeq d) s = .next (s.txGroup { s with seq := d }) := rfl

theorem exec_wrSvc : exec (.wrSvc d) s = .next (s.txGroup { s with svc := d }) := rfl

theorem exec_wrTxPlenLo : exec (.wrTxPlenLo d) s = .next (s.txGroup { s with txPlen := setLo s.txPlen d }) := rfl

theorem exec_wrTxPlenHi : exec (.wrTxPlenHi d) s = .next (s.txGroup { s with txPlen := setHi s.txPlen d }) := rfl

theorem exec_wrTxPtrLo : exec (.wrTxPtrLo d) s = .next (s.txGroup { s with txPtr := setLo s.txPtr d }) := rfl

theorem exec_wrTxPtrHi : exec (.wrTxPtrHi d) s = .next (s.txGroup { s with txPtr := setHi s.txPtr d }) := rfl

end

/-- Settles O27: while not busy a TX-group write is the write itself. -/
theorem requestWritesWhileIdle : Obligations.RequestWritesWhileIdle := by
  intro s d hidle
  rw [exec_wrSeq, exec_wrSvc, exec_wrTxPlenLo, exec_wrTxPlenHi, exec_wrTxPtrLo, exec_wrTxPtrHi]
  simp only [State.txGroup_of_idle hidle, setLo_eq, setHi_eq, and_self]

/-- Settles O28: while busy each of the seven writes is `State.ignored`. -/
theorem requestWritesWhileBusyIgnored : Obligations.RequestWritesWhileBusyIgnored := by
  intro s d hbusy
  rw [exec_wrSeq, exec_wrSvc, exec_wrTxPlenLo, exec_wrTxPlenHi, exec_wrTxPtrLo, exec_wrTxPtrHi, exec_wrTxData]
  simp only [State.txGroup_of_busy hbusy]
  exact ⟨rfl, rfl, rfl, rfl, rfl, rfl, rfl⟩

/-- Data byte 0 of the frame is SVC (30_encoding R92). -/
theorem State.txFrameByte_six (s : State) : s.txFrameByte 6 = .ok s.svc := rfl

/-- Settles O33: each of the nine rows is the TX-group write of its code to SVC. -/
theorem serviceCodesWriteSvc : Obligations.ServiceCodesWriteSvc := by
  intro s p hp
  have hexec : exec p.1 s = .next (s.txGroup { s with svc := p.2 }) := by
    simp only [List.mem_cons, List.not_mem_nil, or_false] at hp
    obtain rfl | rfl | rfl | rfl | rfl | rfl | rfl | rfl | rfl := hp <;> rfl
  rw [hexec]
  refine ⟨fun hidle => ⟨?_, State.txFrameByte_six _⟩, fun hbusy => ?_⟩
  · rw [State.txGroup_of_idle hidle]
  · rw [State.txGroup_of_busy hbusy]
    rfl

end Sys2Proof.Machine
end

section
/-! Single engine steps: the unwritten payload byte, the NAK sent, and a header byte before the sixth. -/

namespace Sys2Proof.Machine

theorem exec_txFrame_fault {s : State} {f : Fault} (hst : s.st = .send) (hbyte : s.txFrameByte s.txIdx.toNat = .error f) :
    exec .txFrame s = .fault f := by
  simp only [exec, execTxFrame, hst, hbyte]

/-- The bytes of TxFrame from 7 on are those of TX_BUF (R132). -/
theorem State.txFrameByte_payload {s : State} {i : Nat} (h7 : 7 ≤ i) (hi : i < 7 + s.txPlen.toNat) :
    s.txFrameByte i = s.txRead (i - 7) := by
  rw [State.txFrameByte, if_neg (Nat.not_lt.mpr h7), if_pos hi]

/-- Settles O35: the read of TX_BUF comes before the transport's answer is asked for. -/
theorem unwrittenPayloadByteFaults : Obligations.UnwrittenPayloadByteFaults := by
  intro s hst h7 hlt hcap hnone
  have hin : s.txIdx.toNat - 7 < Config.txCap := by unfold Config.txCap; omega
  exact exec_txFrame_fault hst ((State.txFrameByte_payload h7 hlt).trans
    ((s.txRead_error_iff _ _).mpr (.inl ⟨hin, hnone, rfl⟩)))

/-- Settles O37: a NAK sent is `State.sentNak`, whose two counts saturate (R162). -/
theorem txNakPromptsRetransmission : Obligations.TxNakPromptsRetransmission := by
  intro s q hst hq
  rw [exec_txNak hst, State.transmit_ok hq]
  rfl

/-- Settles O41: a header byte before the sixth is stored and nothing is checked. -/
theorem headerByteStored : Obligations.HeaderByteStored := by
  intro s b i hst hidx
  have hmore : s.hdrIdx + 1 < Config.hdrLen := by rw [hidx]; exact Nat.succ_lt_succ i.isLt
  refine ⟨s.hdr.set i.val b, ?_, s.hdr.set_bytes i.val b⟩
  rw [exec_rxFrame_readHeader hst, State.headerByte, if_pos hmore, State.tookHeaderByte, hidx]

end Sys2Proof.Machine
end

section
/-! Runs (70_reset R294): many steps one after the other, and the request sent byte by byte. -/

namespace Sys2Proof.Machine

theorem reaches_zero (s : State) : reaches 0 s s := rfl

theorem run_succ_eq_next (M : Host.Core) (n : Nat) (s t : M.State) :
    M.run (n + 1) s = .next t ↔ ∃ u, M.step s = .next u ∧ M.run n u = .next t := by
  rw [Host.Core.run]
  cases M.step s <;> simp

theorem reaches_succ_iff {n : Nat} {s t : State} : reaches (n + 1) s t ↔ ∃ u, step s = .next u ∧ reaches n u t :=
  run_succ_eq_next Sys2Proof.core n s t

theorem reaches_succ {n : Nat} {s u t : State} (hstep : step s = .next u) (h : reaches n u t) : reaches (n + 1) s t :=
  reaches_succ_iff.mpr ⟨u, hstep, h⟩

theorem reaches_one {s t : State} (hstep : step s = .next t) : reaches 1 s t := reaches_succ hstep (reaches_zero t)

theorem reaches_trans {m n : Nat} {s u t : State} (hfirst : reaches m s u) (hthen : reaches n u t) :
    reaches (m + n) s t := by
  induction m generalizing s with
  | zero =>
    cases hfirst
    rwa [Nat.zero_add]
  | succ m ih =>
    obtain ⟨v, hstep, hrest⟩ := reaches_succ_iff.mp hfirst
    rw [Nat.succ_add]
    exact reaches_succ hstep (ih hrest)

/-- SEND is over: the bytes `f` are on the line, and the engine awaits the acknowledgement (R165). -/
@[simps] def State.requestSent (s : State) (f : List Byte) (ts : List Turn) (q : List TxAnswer) : State :=
  { s with
    txIdx := BitVec.ofNat 14 s.frameLen, discCnt := 0, nakRounds := 0x00#8, st := .awaitAck
    env := { s.env with turns := ts, txQ := q, line := s.env.line ++ f } }

theorem step_sendByte {s : State} {ts : List Turn} {b : Byte} {q : List TxAnswer} (hst : s.st = .send)
    (hturn : s.env.turns = .engine :: ts) (hq : s.env.txQ = .ok :: q) (hb : s.txFrameByte s.txIdx.toNat = .ok b) :
    step s = .next ((s.tookTurn ts).txSent b q).sentFrameByte := by
  have hst' : (s.tookTurn ts).st = .send := hst
  have hb' : (s.tookTurn ts).txFrameByte (s.tookTurn ts).txIdx.toNat = .ok b := (s.tookTurn_txFrameByte ts _).trans hb
  have hq' : (s.tookTurn ts).env.txQ = .ok :: q := hq
  rw [step_send hturn hst, exec_txFrame hst' hb', State.transmit_ok hq']

theorem State.sentFrameByte_of_lt {s : State} (h : s.txIdx.toNat + 1 < s.frameLen) :
    s.sentFrameByte = { s with txIdx := s.txIdx + 1#14 } := if_pos h

/-- The last byte of the frame: `tx_idx` is then its length (R165). -/
theorem State.sentFrameByte_of_last {s : State} (h : s.txIdx.toNat + 1 = s.frameLen) :
    s.sentFrameByte =
      { s with txIdx := BitVec.ofNat 14 s.frameLen, discCnt := 0, nakRounds := 0x00#8, st := .awaitAck } := by
  have hidx : BitVec.ofNat 14 s.frameLen = s.txIdx + 1#14 := by
    rw [← h, BitVec.ofNat_add, BitVec.ofNat_toNat, BitVec.setWidth_eq]
  rw [hidx]
  exact if_neg (Nat.not_lt.mpr h.symm.le)

/-- A byte of TxFrame that is not the last is on the line (R164). -/
@[simps] def State.byteSent (s : State) (b : Byte) (ts : List Turn) (q : List TxAnswer) : State :=
  { s with txIdx := s.txIdx + 1#14, env := { s.env with turns := ts, txQ := q, line := s.env.line ++ [b] } }

theorem State.byteSent_txFrameByte (s : State) (b : Byte) (ts : List Turn) (q : List TxAnswer) (i : Nat) :
    (s.byteSent b ts q).txFrameByte i = s.txFrameByte i := State.txFrameByte_congr s (s.byteSent b ts q) rfl i

theorem State.byteSent_requestSent (s : State) (b : Byte) (g : List Byte) (ts us : List Turn) (q r : List TxAnswer) :
    (s.byteSent b us r).requestSent g ts q = s.requestSent (b :: g) ts q := by
  rw [State.requestSent, State.requestSent, List.append_cons]
  rfl

theorem step_sendByte_of_lt {s : State} {ts : List Turn} {b : Byte} {q : List TxAnswer} (hst : s.st = .send)
    (hturn : s.env.turns = .engine :: ts) (hq : s.env.txQ = .ok :: q) (hb : s.txFrameByte s.txIdx.toNat = .ok b)
    (hmore : s.txIdx.toNat + 1 < s.frameLen) :
    step s = .next (s.byteSent b ts q) := by
  rw [step_sendByte hst hturn hq hb, State.sentFrameByte_of_lt (s := (s.tookTurn ts).txSent b q) hmore]
  rfl

theorem step_sendByte_of_last {s : State} {ts : List Turn} {b : Byte} {q : List TxAnswer} (hst : s.st = .send)
    (hturn : s.env.turns = .engine :: ts) (hq : s.env.txQ = .ok :: q) (hb : s.txFrameByte s.txIdx.toNat = .ok b)
    (hlast : s.txIdx.toNat + 1 = s.frameLen) : step s = .next (s.requestSent [b] ts q) := by
  rw [step_sendByte hst hturn hq hb, State.sentFrameByte_of_last (s := (s.tookTurn ts).txSent b q) hlast]
  rfl

/-- The bytes of TxFrame still to send, `g`, are sent in one step each, and the last ends SEND. -/
theorem reaches_requestSent {s : State} {g : List Byte} {ts : List Turn} {q : List TxAnswer} (hst : s.st = .send)
    (hplen : s.txPlen.toNat ≤ Config.txCap) (hne : g ≠ []) (hleft : s.txIdx.toNat + g.length = s.frameLen)
    (hbytes : ∀ j b, g[j]? = some b → s.txFrameByte (s.txIdx.toNat + j) = .ok b)
    (hturns : s.env.turns = List.replicate g.length .engine ++ ts)
    (hq : s.env.txQ = List.replicate g.length .ok ++ q) : reaches g.length s (s.requestSent g ts q) := by
  induction g generalizing s with
  | nil => exact absurd rfl hne
  | cons b g ih =>
    have hb := hbytes 0 b rfl
    cases g with
    | nil => exact reaches_one (step_sendByte_of_last hst hturns hq hb hleft)
    | cons c g =>
      have hmore : s.txIdx.toNat + 1 < s.frameLen := by
        rw [← hleft, List.length_cons, List.length_cons]
        omega
      have hidx := State.txIdx_succ_toNat hmore hplen
      have hstep := step_sendByte_of_lt hst hturns hq hb hmore
      rw [← State.byteSent_requestSent]
      refine reaches_succ hstep (ih hst hplen (List.cons_ne_nil c g) ?_ (fun j d hj => ?_) rfl rfl)
      · refine Eq.trans ?_ hleft
        simp only [State.byteSent_txIdx, hidx, List.length_cons]
        omega
      · have hnext := hbytes (j + 1) d hj
        rwa [← Nat.add_assoc, Nat.add_right_comm, ← hidx, ← s.byteSent_txFrameByte] at hnext

/-- From acceptance: the whole frame (R163). -/
theorem State.Payload.reaches_requestSent {s : State} {p : List Byte} {ts : List Turn} {q : List TxAnswer}
    (h : s.Payload p) (hst : s.st = .send) (hidx : s.txIdx = 0#14)
    (hturns : s.env.turns = List.replicate (p.length + 9) .engine ++ ts)
    (hq : s.env.txQ = List.replicate (p.length + 9) .ok ++ q) :
    reaches (p.length + 9) s (s.requestSent (s.requestFrame p) ts q) := by
  have hzero : s.txIdx.toNat = 0 := by rw [hidx]; rfl
  rw [← s.requestFrame_length p] at hturns hq ⊢
  refine Machine.reaches_requestSent hst (h.length ▸ h.fits) ?_ ?_ (fun j b hj => ?_) hturns hq
  · exact List.ne_nil_of_length_pos (by rw [State.requestFrame_length]; omega)
  · rw [hzero, Nat.zero_add, h.frameLen]
  · rw [hzero, Nat.zero_add]
    exact h.txFrameByte hj

/-- Settles O58: the frame sent from index 0 on is Encode's. -/
theorem requestSentExactly : Obligations.RequestSentExactly := by
  intro s p ts q hst hidx hlen hcap hwritten hturns hq
  have h : s.Payload p := ⟨hlen, hcap, hwritten⟩
  have hframe : s.frameLen = p.length + 9 := h.frameLen.trans (s.requestFrame_length p)
  have hsent := h.reaches_requestSent hst hidx hturns hq
  rw [State.requestSent, hframe] at hsent
  exact ⟨s.requestFrame p, h.encodeFrame, hsent⟩

end Sys2Proof.Machine
end

section
/-! A fragment received (42_link_sequencer R172 to R177, R188): header, data, trailer and VALIDATE, each as one run from any
state of its phase to a state written out, and the four runs one after the other. -/

namespace Sys2Proof.Machine

/-! The header. -/

/-- The header bytes `bs` stored one after the other from index `i` on (R172). -/
def Header.setFrom : Header → Nat → List Byte → Header
  | h, _, [] => h
  | h, i, b :: bs => (h.set i b).setFrom (i + 1) bs

/-- Six bytes stored from index 0 on are the header, whatever was there. -/
theorem Header.set_setFrom (g h : Header) : (g.setFrom 0 [h.h0, h.h1, h.h2, h.h3, h.h4]).set 5 h.h5 = h := rfl

/-- READ_HEADER after some of the first five bytes. -/
@[simps] def State.headerTaken (s : State) (bs : List Byte) (ts : List Turn) (q : List RxAnswer) : State :=
  { s with
    hdr := s.hdr.setFrom s.hdrIdx bs, rxAcc := crcFeed s.rxAcc bs, hdrIdx := s.hdrIdx + bs.length
    env := { s.env with turns := ts, rxQ := q } }

theorem State.headerTaken_headerTaken (s : State) (b : Byte) (bs : List Byte) (ts us : List Turn) (q r : List RxAnswer) :
    (s.headerTaken [b] us r).headerTaken bs ts q = s.headerTaken (b :: bs) ts q := by
  have hidx : s.hdrIdx + 1 + bs.length = s.hdrIdx + (b :: bs).length := by rw [List.length_cons]; omega
  rw [State.headerTaken, State.headerTaken, State.headerTaken, ← hidx]
  rfl

theorem step_headerByte {s : State} {ts : List Turn} {b : Byte} {q : List RxAnswer} (hst : s.st = .readHeader)
    (hturn : s.env.turns = .engine :: ts) (hq : s.env.rxQ = .byte b :: q) :
    step s = .next (((s.tookTurn ts).tookRx q).headerByte b) := by
  have hst' : ((s.tookTurn ts).tookRx q).st = .readHeader := hst
  rw [step_read (.inl hst) hturn hq, exec_rxFrame_readHeader hst']

theorem step_headerByte_of_lt {s : State} {ts : List Turn} {b : Byte} {q : List RxAnswer} (hst : s.st = .readHeader)
    (hidx : s.hdrIdx + 1 < Config.hdrLen) (hturn : s.env.turns = .engine :: ts) (hq : s.env.rxQ = .byte b :: q) :
    step s = .next (s.headerTaken [b] ts q) := by
  have hidx' : ((s.tookTurn ts).tookRx q).hdrIdx + 1 < Config.hdrLen := hidx
  rw [step_headerByte hst hturn hq, State.headerByte, if_pos hidx']
  rfl

theorem reaches_headerTaken {s : State} {bs : List Byte} {ts : List Turn} {q : List RxAnswer} (hst : s.st = .readHeader)
    (hidx : s.hdrIdx + bs.length < Config.hdrLen) (hturns : s.env.turns = List.replicate bs.length .engine ++ ts)
    (hq : s.env.rxQ = bs.map .byte ++ q) : reaches bs.length s (s.headerTaken bs ts q) := by
  induction bs generalizing s with
  | nil =>
    have hsame : s.headerTaken [] ts q = s := by
      rw [State.headerTaken, ← (show s.env.turns = ts from hturns), ← (show s.env.rxQ = q from hq)]
      rfl
    rw [hsame]
    exact reaches_zero s
  | cons b bs ih =>
    rw [List.length_cons] at hidx
    rw [← s.headerTaken_headerTaken b bs ts (List.replicate bs.length .engine ++ ts) q (bs.map .byte ++ q)]
    refine reaches_succ (step_headerByte_of_lt hst (by omega) hturns hq) (ih hst ?_ rfl rfl)
    simp only [State.headerTaken_hdrIdx, List.length_singleton]
    omega

/-- The header `h` is taken and checked, `acc` the CRC register after it: the data or the trailer comes next (R173). -/
@[simps] def State.headerChecked (s : State) (h : Header) (acc : Half) (ts : List Turn) (q : List RxAnswer) : State :=
  { s with
    hdr := h, rxAcc := acc, hdrIdx := 6, more := h.moreFlag, fragLen := h.length
    st := if h.length = 0#16 then .readCrc else .readBody
    env := { s.env with turns := ts, rxQ := q } }

theorem State.headerError_eq_none {s : State} (hstp : s.hdr.h0 = Config.stp)
    (hshort : s.par.rxLenStrict = true → s.hdr.length.toNat ≤ Config.maxData)
    (hfits : s.rxLen.toNat + s.hdr.length.toNat ≤ s.par.reasmCap.toNat) : s.headerError = none := by
  obtain ⟨-, hbad | ⟨hstrict, hlong⟩⟩ | ⟨-, -, -, hover⟩ | ⟨hnone, -⟩ := s.headerError_cases
  · exact absurd hstp hbad
  · exact absurd (hshort hstrict) (Nat.not_le.mpr hlong)
  · exact absurd hfits (Nat.not_le.mpr hover)
  · exact hnone

/-- The sixth byte completes the header `h`, which passes the checks of R141. -/
theorem step_sixthHeaderByte {s : State} {h : Header} {b : Byte} {ts : List Turn} {q : List RxAnswer}
    (hst : s.st = .readHeader) (hidx : s.hdrIdx = 5) (hhdr : s.hdr.set 5 b = h) (hstp : h.h0 = Config.stp)
    (hshort : s.par.rxLenStrict = true → h.length.toNat ≤ Config.maxData)
    (hfits : s.rxLen.toNat + h.length.toNat ≤ s.par.reasmCap.toNat) (hturn : s.env.turns = .engine :: ts)
    (hq : s.env.rxQ = .byte b :: q) : step s = .next (s.headerChecked h (crcStep s.rxAcc b) ts q) := by
  subst hhdr
  have hidx' : ((s.tookTurn ts).tookRx q).hdrIdx = 5 := hidx
  rw [step_headerByte hst hturn hq, State.headerByte_sixth hidx', State.headerDone_of_ok]
  · rfl
  · exact State.headerError_eq_none hstp hshort hfits

/-- Six steps take a header that passes the checks. -/
theorem reaches_headerChecked {s : State} {h : Header} {ts : List Turn} {q : List RxAnswer} (hst : s.st = .readHeader)
    (hidx : s.hdrIdx = 0) (hstp : h.h0 = Config.stp)
    (hshort : s.par.rxLenStrict = true → h.length.toNat ≤ Config.maxData)
    (hfits : s.rxLen.toNat + h.length.toNat ≤ s.par.reasmCap.toNat)
    (hturns : s.env.turns = List.replicate 6 .engine ++ ts) (hq : s.env.rxQ = h.bytes.map .byte ++ q) :
    reaches 6 s (s.headerChecked h (crcFeed s.rxAcc h.bytes) ts q) := by
  have hfive : reaches 5 s (s.headerTaken [h.h0, h.h1, h.h2, h.h3, h.h4] (.engine :: ts) (.byte h.h5 :: q)) :=
    reaches_headerTaken (bs := [h.h0, h.h1, h.h2, h.h3, h.h4]) hst (by rw [hidx]; exact Nat.lt_succ_self 5) hturns hq
  refine reaches_trans hfive (reaches_one ?_)
  rw [step_sixthHeaderByte (s := s.headerTaken [h.h0, h.h1, h.h2, h.h3, h.h4] (.engine :: ts) (.byte h.h5 :: q)) (h := h)
    hst (by rw [State.headerTaken_hdrIdx, hidx]; rfl) (by rw [State.headerTaken_hdr, hidx, Header.set_setFrom]) hstp hshort
    hfits rfl rfl]
  rfl

/-! The data. -/

/-- The bytes `bs` stored one after the other from index `i` on (R174). -/
def Memory.writeFrom : Memory → Nat → List Byte → Memory
  | m, _, [] => m
  | m, i, b :: bs => (m.write i b).writeFrom (i + 1) bs

theorem Memory.read_writeFrom_of_lt (m : Memory) {i j : Nat} (h : j < i) (bs : List Byte) :
    (m.writeFrom i bs).read j = m.read j := by
  induction bs generalizing m i with
  | nil => rfl
  | cons b bs ih => rw [Memory.writeFrom, ih (m.write i b) (by omega), m.read_write_other i j b (by omega)]

theorem Memory.read_writeFrom (m : Memory) (i : Nat) {bs : List Byte} {j : Nat} {b : Byte} (h : bs[j]? = some b) :
    (m.writeFrom i bs).read (i + j) = some b := by
  induction bs generalizing m i j with
  | nil => simp at h
  | cons c bs ih =>
    rw [Memory.writeFrom]
    cases j with
    | zero =>
      cases h
      exact ((m.write i b).read_writeFrom_of_lt (Nat.lt_add_one i) bs).trans (m.read_write_same i b)
    | succ j => rw [← Nat.add_assoc, Nat.add_right_comm, ih (m.write i c) (i + 1) h]

/-- READ_BODY after a data byte that is not the last. -/
@[simps] def State.dataByteTaken (s : State) (b : Byte) (ts : List Turn) (q : List RxAnswer) : State :=
  { s with
    rxBuf := s.rxBuf.write s.bodyIndex b, rxAcc := crcStep s.rxAcc b, bodyIdx := s.bodyIdx + 1#16
    env := { s.env with turns := ts, rxQ := q } }

/-- The rest of the fragment's data, `d`, is in RX_BUF: the trailer comes next (R174). -/
@[simps] def State.dataTaken (s : State) (d : List Byte) (ts : List Turn) (q : List RxAnswer) : State :=
  { s with
    rxBuf := s.rxBuf.writeFrom s.bodyIndex d, rxAcc := crcFeed s.rxAcc d, bodyIdx := s.fragLen, st := .readCrc
    env := { s.env with turns := ts, rxQ := q } }

theorem State.dataByteTaken_dataTaken {s : State} (h : s.bodyIdx.toNat < s.fragLen.toNat) (b : Byte) (d : List Byte)
    (ts us : List Turn) (q r : List RxAnswer) : (s.dataByteTaken b us r).dataTaken d ts q = s.dataTaken (b :: d) ts q := by
  have hindex : (s.dataByteTaken b us r).bodyIndex = s.bodyIndex + 1 := by
    rw [State.bodyIndex, State.bodyIndex, State.dataByteTaken_bodyIdx, State.bodyIdx_succ_toNat h, Nat.add_assoc]
    rfl
  rw [State.dataTaken, State.dataTaken, hindex]
  rfl

theorem step_bodyByte {s : State} {ts : List Turn} {b : Byte} {q : List RxAnswer} (hst : s.st = .readBody)
    (hturn : s.env.turns = .engine :: ts) (hq : s.env.rxQ = .byte b :: q) :
    step s = ((s.tookTurn ts).tookRx q).bodyByte b := by
  have hst' : ((s.tookTurn ts).tookRx q).st = .readBody := hst
  rw [step_read (.inr (.inl hst)) hturn hq, exec_rxFrame_readBody hst']

section
variable {s : State} {ts : List Turn} {b : Byte} {q : List RxAnswer}

theorem step_bodyByte_of_lt (hst : s.st = .readBody) (hroom : s.bodyIndex < s.par.reasmCap.toNat)
    (hmore : s.bodyIdx.toNat + 1 < s.fragLen.toNat) (hturn : s.env.turns = .engine :: ts)
    (hq : s.env.rxQ = .byte b :: q) : step s = .next (s.dataByteTaken b ts q) := by
  have hmore' : ((s.tookTurn ts).tookRx q).bodyIdx.toNat + 1 < ((s.tookTurn ts).tookRx q).fragLen.toNat := hmore
  rw [step_bodyByte hst hturn hq, State.bodyByte_of_lt (s := (s.tookTurn ts).tookRx q) hroom, if_pos hmore',
    State.dataByteTaken, hst]
  rfl

theorem step_bodyByte_of_last (hst : s.st = .readBody) (hroom : s.bodyIndex < s.par.reasmCap.toNat)
    (hlast : s.bodyIdx.toNat + 1 = s.fragLen.toNat) (hturn : s.env.turns = .engine :: ts)
    (hq : s.env.rxQ = .byte b :: q) : step s = .next (s.dataTaken [b] ts q) := by
  have hend : ¬ ((s.tookTurn ts).tookRx q).bodyIdx.toNat + 1 < ((s.tookTurn ts).tookRx q).fragLen.toNat :=
    Nat.not_lt.mpr hlast.symm.le
  have hidx : ((s.tookTurn ts).tookRx q).bodyIdx + 1#16 = s.fragLen :=
    BitVec.eq_of_toNat_eq ((State.bodyIdx_succ_toNat (s := s) (by omega)).trans hlast)
  rw [step_bodyByte hst hturn hq, State.bodyByte_of_lt (s := (s.tookTurn ts).tookRx q) hroom, if_neg hend, hidx]
  rfl

end

/-- The data bytes still to come, `d`, take one step each, and the last ends READ_BODY. -/
theorem reaches_dataTaken {s : State} {d : List Byte} {ts : List Turn} {q : List RxAnswer} (hst : s.st = .readBody)
    (hfits : s.FragFits) (hne : d ≠ []) (hleft : s.bodyIdx.toNat + d.length = s.fragLen.toNat)
    (hturns : s.env.turns = List.replicate d.length .engine ++ ts) (hq : s.env.rxQ = d.map .byte ++ q) :
    reaches d.length s (s.dataTaken d ts q) := by
  induction d generalizing s with
  | nil => exact absurd rfl hne
  | cons b d ih =>
    rw [List.length_cons] at hleft
    have hroom : s.bodyIndex < s.par.reasmCap.toNat := by
      unfold State.FragFits at hfits
      unfold State.bodyIndex
      omega
    cases d with
    | nil => exact reaches_one (step_bodyByte_of_last hst hroom hleft hturns hq)
    | cons c d =>
      rw [List.length_cons] at hleft
      have hlt : s.bodyIdx.toNat < s.fragLen.toNat := by omega
      rw [← State.dataByteTaken_dataTaken hlt b (c :: d) ts (List.replicate (c :: d).length .engine ++ ts) q
        ((c :: d).map .byte ++ q)]
      refine reaches_succ (step_bodyByte_of_lt hst hroom (by omega) hturns hq)
        (ih hst hfits (List.cons_ne_nil c d) ?_ rfl rfl)
      simp only [State.dataByteTaken_bodyIdx, State.dataByteTaken_fragLen, State.bodyIdx_succ_toNat hlt, List.length_cons]
      omega

/-! The trailer and VALIDATE. -/

/-- The trailer `t0 t1` is in RXCRC (R175). -/
@[simps] def State.trailerTaken (s : State) (t0 t1 : Byte) (ts : List Turn) (q : List RxAnswer) : State :=
  { s with rxCrc := pair t1 t0, crcIdx := 2, st := .validate, env := { s.env with turns := ts, rxQ := q } }

theorem step_crcByte {s : State} {ts : List Turn} {b : Byte} {q : List RxAnswer} (hst : s.st = .readCrc)
    (hturn : s.env.turns = .engine :: ts) (hq : s.env.rxQ = .byte b :: q) :
    step s = .next (((s.tookTurn ts).tookRx q).crcByte b) := by
  have hst' : ((s.tookTurn ts).tookRx q).st = .readCrc := hst
  rw [step_read (.inr (.inr hst)) hturn hq, exec_rxFrame_readCrc hst']

/-- READ_CRC after the low byte of the trailer. -/
@[simps] def State.trailerLowTaken (s : State) (t0 : Byte) (ts : List Turn) (q : List RxAnswer) : State :=
  { s with rxCrc := setLo s.rxCrc t0, crcIdx := 1, env := { s.env with turns := ts, rxQ := q } }

theorem step_crcByte_first {s : State} {ts : List Turn} {b : Byte} {q : List RxAnswer} (hst : s.st = .readCrc)
    (hcrc : s.crcIdx = 0) (hturn : s.env.turns = .engine :: ts) (hq : s.env.rxQ = .byte b :: q) :
    step s = .next (s.trailerLowTaken b ts q) := by
  rw [step_crcByte hst hturn hq, State.crcByte_first (s := (s.tookTurn ts).tookRx q) hcrc]
  rfl

theorem step_crcByte_second {s : State} {t0 t1 : Byte} {ts us : List Turn} {q r : List RxAnswer} (hst : s.st = .readCrc)
    (hturn : us = .engine :: ts) (hq : r = .byte t1 :: q) :
    step (s.trailerLowTaken t0 us r) = .next (s.trailerTaken t0 t1 ts q) := by
  subst hturn hq
  have hcrc : (((s.trailerLowTaken t0 (.engine :: ts) (.byte t1 :: q)).tookTurn ts).tookRx q).crcIdx = 1 := rfl
  have hst' : (s.trailerLowTaken t0 (.engine :: ts) (.byte t1 :: q)).st = .readCrc := hst
  rw [step_crcByte hst' rfl rfl, State.crcByte_second hcrc, State.trailerTaken, ← setHi_setLo s.rxCrc]
  rfl

theorem reaches_trailerTaken {s : State} {t0 t1 : Byte} {ts : List Turn} {q : List RxAnswer} (hst : s.st = .readCrc)
    (hcrc : s.crcIdx = 0) (hturns : s.env.turns = .engine :: .engine :: ts)
    (hq : s.env.rxQ = .byte t0 :: .byte t1 :: q) : reaches 2 s (s.trailerTaken t0 t1 ts q) :=
  reaches_succ (step_crcByte_first hst hcrc hturns hq) (reaches_one (step_crcByte_second hst rfl rfl))

/-- A fragment with header `h`, data `d` and the trailer of RXCRC is committed: VALIDATE has found its CRC equal (R176). -/
@[simps] def State.fragmentCommitted (s : State) (h : Header) (d : List Byte) (crc : Half) (ts : List Turn)
    (q : List RxAnswer) : State :=
  { s with
    hdr := h, rxAcc := crcFeed 0xFFFF#16 (h.bytes ++ d), hdrIdx := 6, more := h.moreFlag, fragLen := h.length
    rxBuf := s.rxBuf.writeFrom s.rxLen.toNat d, bodyIdx := h.length, rxCrc := crc, crcIdx := 2, calcCrc := crc
    rxLen := s.rxLen + h.length, fragCnt := satInc s.fragCnt, moreLast := h.moreFlag, ackFinal := !h.moreFlag
    st := .sendAck, env := { s.env with turns := ts, rxQ := q } }

/-- Header and data together: without data the header itself leads to the trailer. -/
theorem reaches_headerAndData {s : State} {h : Header} {d : List Byte} {ts : List Turn} {q : List RxAnswer}
    (hst : s.st = .readHeader) (hidx : s.hdrIdx = 0) (hbody : s.bodyIdx = 0#16) (hstp : h.h0 = Config.stp)
    (hlen : h.length.toNat = d.length) (hshort : s.par.rxLenStrict = true → h.length.toNat ≤ Config.maxData)
    (hfits : s.rxLen.toNat + h.length.toNat ≤ s.par.reasmCap.toNat)
    (hturns : s.env.turns = List.replicate 6 .engine ++ (List.replicate d.length .engine ++ ts))
    (hq : s.env.rxQ = h.bytes.map .byte ++ (d.map .byte ++ q)) :
    reaches (6 + d.length) s ((s.headerChecked h (crcFeed s.rxAcc h.bytes) ts q).dataTaken d ts q) := by
  refine reaches_trans (reaches_headerChecked hst hidx hstp hshort hfits hturns hq) ?_
  cases d with
  | nil =>
    have hempty : h.length = 0#16 := BitVec.eq_of_toNat_eq hlen
    have hsame : (s.headerChecked h (crcFeed s.rxAcc h.bytes) ts q).dataTaken [] ts q =
        s.headerChecked h (crcFeed s.rxAcc h.bytes) ts q := by
      rw [State.dataTaken, State.headerChecked_fragLen, State.headerChecked, if_pos hempty, hempty, ← hbody]
      rfl
    rw [hsame]
    exact reaches_zero _
  | cons b d =>
    have hsome : h.length ≠ 0#16 := by
      rintro hzero
      rw [hzero] at hlen
      cases hlen
    exact reaches_dataTaken (if_neg hsome) hfits (List.cons_ne_nil b d) (by
      rw [State.headerChecked_bodyIdx, State.headerChecked_fragLen, hbody, hlen]
      exact Nat.zero_add _) rfl rfl

theorem step_validate_of_eq {s : State} {ts : List Turn} (hst : s.st = .validate) (hturn : s.env.turns = .engine :: ts)
    (hcrc : s.fragCrc = s.rxCrc) :
    step s = .next { s with
      calcCrc := s.fragCrc, rxLen := s.rxLen + s.fragLen, fragCnt := satInc s.fragCnt
      moreLast := s.more, ackFinal := !s.more, st := .sendAck, env := { s.env with turns := ts } } := by
  have hcrc' : (s.tookTurn ts).fragCrc = (s.tookTurn ts).rxCrc := hcrc
  rw [step_validate hst hturn, State.validateFrag, if_pos hcrc']
  rfl

/-- A fragment whose CRC verifies, from its first byte to its commit. -/
theorem reaches_fragmentCommitted {s : State} {h : Header} {d : List Byte} {t0 t1 : Byte} {ts : List Turn}
    {q : List RxAnswer} (hst : s.st = .readHeader) (hidx : s.hdrIdx = 0) (hbody : s.bodyIdx = 0#16) (hcrc : s.crcIdx = 0)
    (hacc : s.rxAcc = 0xFFFF#16) (hstp : h.h0 = Config.stp) (hlen : h.length.toNat = d.length)
    (hshort : s.par.rxLenStrict = true → d.length ≤ Config.maxData)
    (hfits : s.rxLen.toNat + d.length ≤ s.par.reasmCap.toNat) (hverify : verifyCrc (h.bytes ++ d) t0 t1 = true)
    (hturns : s.env.turns = List.replicate (d.length + 9) .engine ++ ts)
    (hq : s.env.rxQ = (h.bytes ++ d ++ [t0, t1]).map .byte ++ q) :
    reaches (d.length + 9) s (s.fragmentCommitted h d (pair t1 t0) ts q) := by
  have hcount : d.length + 9 = 6 + d.length + 2 + 1 := by omega
  rw [hcount, List.replicate_add, List.replicate_add, List.replicate_add] at hturns
  simp only [List.append_assoc] at hturns
  simp only [List.map_append, List.append_assoc] at hq
  have hdata := reaches_headerAndData hst hidx hbody hstp hlen (by rwa [hlen]) (by rwa [hlen]) hturns hq
  have hfeed : crcFeed (crcFeed s.rxAcc h.bytes) d = crcFeed 0xFFFF#16 (h.bytes ++ d) := by rw [hacc, crcFeed_append]
  have hindex : s.bodyIndex = s.rxLen.toNat := by rw [State.bodyIndex, hbody]; rfl
  rw [hcount]
  refine reaches_trans (reaches_trans hdata
    (reaches_trailerTaken (t0 := t0) (t1 := t1) (ts := .engine :: ts) (q := q) rfl hcrc rfl rfl)) (reaches_one ?_)
  generalize hu : ((s.headerChecked h (crcFeed s.rxAcc h.bytes) _ _).dataTaken d _ _).trailerTaken t0 t1 _ _ = u
  have hfrag : u.fragCrc = pair t1 t0 := by
    rw [← (verifyCrc_iff _ _ _).mp hverify, crc16, ← hfeed, ← hu]
    rfl
  have hstored : u.rxCrc = pair t1 t0 := by rw [← hu]; rfl
  rw [step_validate_of_eq (by rw [← hu]; rfl) (by rw [← hu]; rfl) (hfrag.trans hstored.symm), hfrag,
    State.fragmentCommitted, ← hfeed, ← hindex, ← hu]
  rfl

/-- Settles O59: the committed state, with RX_BUF by the reads of the bytes stored and of those before them. -/
theorem fragmentReceivedAndCommitted : Obligations.FragmentReceivedAndCommitted := by
  intro s h d t0 t1 ts q hinv hst hidx hacc hstp hlen hshort hfits hverify hturns hq
  have ⟨_, hbody, hcrc⟩ := hinv.inHeader hst
  have hrxLen : (s.rxLen + h.length).toNat = s.rxLen.toNat + d.length := by
    have := s.par.reasmCap.isLt
    rw [BitVec.toNat_add, hlen, Nat.mod_eq_of_lt (by omega)]
  exact ⟨s.fragmentCommitted h d (pair t1 t0) ts q,
    reaches_fragmentCommitted hst hidx hbody hcrc hacc hstp hlen hshort hfits hverify hturns hq,
    rfl, rfl, rfl, hrxLen, fun j b hj => s.rxBuf.read_writeFrom s.rxLen.toNat hj,
    fun j hj => s.rxBuf.read_writeFrom_of_lt hj d, rfl, rfl, rfl, rfl, rfl, rfl, rfl, rfl, rfl⟩

end Sys2Proof.Machine
end

section
/-! A whole exchange (42_link_sequencer R187, 70_reset R294): the EXCHANGE accepted, the request sent, an ACK, one fragment,
and the final ACK, each the run or step of its own, joined in `exchangeCompletes`. -/

namespace Sys2Proof.Machine

/-- An EXCHANGE is accepted (R215). -/
@[simps!] def State.exchangeStarted (s : State) : State := { s.clearOutcome with txIdx := 0#14, st := .send }

theorem step_exchange {s : State} {ts : List Turn} {q : List HostAccess} (hst : s.st = .idle)
    (hfits : s.txPlen.toNat ≤ Config.txCap) (hturn : s.env.turns = .host :: ts)
    (hq : s.env.hostQ = .wr 0x00#8 0x01#8 :: q) :
    step s = .next ((s.tookTurn ts).tookAccess q).exchangeStarted := by
  rw [step_host hturn hq (i := .cmdExchange) rfl]
  exact exec_cmdExchange_of_le_txCap (s := (s.tookTurn ts).tookAccess q) hst hfits

theorem step_ack {s : State} {ts : List Turn} {q : List RxAnswer} (hst : s.st = .awaitAck)
    (hturn : s.env.turns = .engine :: ts) (hq : s.env.rxQ = .byte 0x06#8 :: q) :
    step s = .next ((s.tookTurn ts).tookRx q).beginFragment := by
  rw [step_awaitAck hst hturn hq (i := .rxAck) rfl]
  exact exec_rxAck (s := (s.tookTurn ts).tookRx q) hst

theorem step_finalAck {s : State} {ts : List Turn} {q : List TxAnswer} (hst : s.st = .sendAck) (hfinal : s.ackFinal = true)
    (hturn : s.env.turns = .engine :: ts) (hq : s.env.txQ = .ok :: q) :
    step s = .next ((s.tookTurn ts).txSent Config.ack q).complete := by
  have hst' : (s.tookTurn ts).st = .sendAck := hst
  have hq' : (s.tookTurn ts).env.txQ = .ok :: q := hq
  rw [step_sendAck hturn hst, exec_txAck hst', State.transmit_ok hq',
    State.sentAck_of_final (s := (s.tookTurn ts).txSent Config.ack q) hfinal]

/-! The queues a run has used up are all that separates its end state from one written without them. -/

theorem State.requestSent_of_tookTurn (s : State) (f : List Byte) (ts us : List Turn) (a : List HostAccess)
    (q : List TxAnswer) : ((s.tookTurn us).tookAccess a).exchangeStarted.requestSent f ts q =
      (s.tookAccess a).exchangeStarted.requestSent f ts q := by
  rw [State.requestSent, State.requestSent]
  rfl

/-- From the write of EXCHANGE to the last byte of the request. -/
theorem reaches_exchange_requestSent {s : State} {p : List Byte} {ts : List Turn} {a : List HostAccess} {q : List TxAnswer}
    (hst : s.st = .idle) (hp : s.Payload p) (hturns : s.env.turns = .host :: (List.replicate (p.length + 9) .engine ++ ts))
    (haccess : s.env.hostQ = .wr 0x00#8 0x01#8 :: a) (htx : s.env.txQ = List.replicate (p.length + 9) .ok ++ q) :
    reaches (1 + (p.length + 9)) s ((s.tookAccess a).exchangeStarted.requestSent (s.requestFrame p) ts q) := by
  have hstart := step_exchange hst (hp.length ▸ hp.fits) hturns haccess
  have hpayload : ((s.tookTurn (List.replicate (p.length + 9) .engine ++ ts)).tookAccess a).exchangeStarted.Payload p :=
    ⟨hp.length, hp.fits, hp.written⟩
  have hsent := hpayload.reaches_requestSent rfl rfl rfl htx
  rw [State.requestSent_of_tookTurn] at hsent
  exact reaches_trans (reaches_one hstart) hsent

theorem State.beginFragment_fragmentCommitted (s : State) (h : Header) (d : List Byte) (crc : Half) (ts us : List Turn)
    (q r : List RxAnswer) : ((s.tookTurn us).tookRx r).beginFragment.fragmentCommitted h d crc ts q =
      s.beginFragment.fragmentCommitted h d crc ts q := by
  rw [State.fragmentCommitted, State.fragmentCommitted]
  rfl

theorem State.fragmentCommitted_tookTurn (s : State) (h : Header) (d : List Byte) (crc : Half) (ts us : List Turn)
    (q : List RxAnswer) : (s.fragmentCommitted h d crc us q).tookTurn ts = s.fragmentCommitted h d crc ts q := by
  rw [State.tookTurn, State.fragmentCommitted, State.fragmentCommitted]

/-- One fragment is received and its final ACK sent; the completion is still to come (R184). -/
def State.answered (s : State) (h : Header) (d : List Byte) (crc : Half) : State :=
  (s.beginFragment.fragmentCommitted h d crc [] []).txSent Config.ack []

theorem State.requestSent_answered (s : State) (f : List Byte) (ts : List Turn) (q : List TxAnswer) (h : Header)
    (d : List Byte) (crc : Half) : (s.requestSent f ts q).answered h d crc = (s.requestSent f [] []).answered h d crc := by
  rw [State.answered, State.answered, State.fragmentCommitted, State.fragmentCommitted]
  rfl

/-- From the acknowledgement of the request to the final ACK of its one fragment. -/
theorem reaches_answered {s : State} {h : Header} {d : List Byte} {t0 t1 : Byte} (hst : s.st = .awaitAck)
    (hstp : h.h0 = Config.stp) (hmore : h.moreFlag = false) (hlen : h.length.toNat = d.length)
    (hshort : d.length ≤ Config.maxData) (hfits : s.rxLen.toNat + d.length ≤ s.par.reasmCap.toNat)
    (hverify : verifyCrc (h.bytes ++ d) t0 t1 = true)
    (hturns : s.env.turns = .engine :: (List.replicate (d.length + 9) .engine ++ [.engine]))
    (htx : s.env.txQ = [.ok]) (hrx : s.env.rxQ = .byte 0x06#8 :: (h.bytes ++ d ++ [t0, t1]).map .byte) :
    reaches (1 + (d.length + 9) + 1) s (s.answered h d (pair t1 t0)).complete := by
  have hfinal : (!h.moreFlag) = true := by rw [hmore]; rfl
  have hfragment := reaches_trans (reaches_one (step_ack hst hturns hrx))
    (reaches_fragmentCommitted (ts := [.engine]) (q := []) rfl rfl rfl rfl rfl hstp hlen (fun _ => hshort) hfits hverify
      rfl (List.append_nil _).symm)
  have hdone := step_finalAck (s := s.beginFragment.fragmentCommitted h d (pair t1 t0) [.engine] []) (ts := []) (q := [])
    rfl hfinal rfl htx
  rw [State.beginFragment_fragmentCommitted] at hfragment
  rw [State.fragmentCommitted_tookTurn] at hdone
  exact reaches_trans hfragment (reaches_one hdone)

/-- The state a one-fragment exchange ends in, but for the completion of its last step. -/
def State.exchanged (s : State) (f : List Byte) (h : Header) (d : List Byte) (crc : Half) : State :=
  ((s.tookAccess []).exchangeStarted.requestSent f [] []).answered h d crc

theorem replicate_exchange {α : Type} (x : α) (m n : Nat) : List.replicate (m + 9 + 1 + (n + 9) + 1) x =
    List.replicate (m + 9) x ++ x :: (List.replicate (n + 9) x ++ [x]) := by
  rw [List.replicate_add _ 1, List.replicate_add _ (n + 9), List.replicate_add _ 1, List.append_assoc, List.append_assoc]
  rfl

/-- The steps of R294, from the write of EXCHANGE to the final ACK. -/
theorem reaches_exchanged {s : State} {p : List Byte} {h : Header} {d : List Byte} {t0 t1 : Byte} (hst : s.st = .idle)
    (hp : s.Payload p) (hstp : h.h0 = Config.stp) (hmore : h.moreFlag = false) (hlen : h.length.toNat = d.length)
    (hshort : d.length ≤ Config.maxData) (hfits : d.length ≤ s.par.reasmCap.toNat)
    (hverify : verifyCrc (h.bytes ++ d) t0 t1 = true)
    (hturns : s.env.turns = .host :: List.replicate (p.length + 9 + 1 + (d.length + 9) + 1) .engine)
    (haccess : s.env.hostQ = [.wr 0x00#8 0x01#8]) (htx : s.env.txQ = List.replicate (p.length + 10) .ok)
    (hrx : s.env.rxQ = .byte 0x06#8 :: (h.bytes ++ d ++ [t0, t1]).map .byte) :
    reaches (1 + (p.length + 9 + 1 + (d.length + 9) + 1)) s
      (s.exchanged (s.requestFrame p) h d (pair t1 t0)).complete := by
  rw [replicate_exchange] at hturns
  have hsent := reaches_exchange_requestSent hst hp hturns haccess (htx.trans (List.replicate_add (p.length + 9) 1 _))
  have hanswered := reaches_answered (s := (s.tookAccess []).exchangeStarted.requestSent (s.requestFrame p)
    (.engine :: (List.replicate (d.length + 9) .engine ++ [.engine])) [.ok]) rfl hstp hmore hlen hshort
    ((Nat.zero_add _).trans_le hfits) hverify rfl rfl hrx
  rw [State.requestSent_answered] at hanswered
  have hcount : 1 + (p.length + 9 + 1 + (d.length + 9) + 1) = 1 + (p.length + 9) + (1 + (d.length + 9) + 1) := by omega
  rw [hcount]
  exact reaches_trans hsent hanswered

/-- Settles O60: the run is `reaches_exchanged`; its end has the fragment's data in RX_BUF from index 0 on, the first of them
the status that completion stores. -/
theorem exchangeCompletes : Obligations.ExchangeCompletes := by
  intro s p h d t0 t1 hinv hst hplen hcap hwritten hstp hmore hlen hsome hshort hverify hturns haccess htx hrx
  have hp : s.Payload p := ⟨hplen, hcap, hwritten⟩
  have hfits : d.length ≤ s.par.reasmCap.toNat := hshort.trans ((Params.ok_iff _).mp hinv.params).2
  have hrun := reaches_exchanged hst hp hstp hmore hlen hshort hfits hverify hturns haccess htx hrx
  cases d with
  | nil => cases hsome
  | cons v d =>
    have hdata {j : Nat} {b : Byte} (hj : (v :: d)[j]? = some b) :
        (s.exchanged (s.requestFrame p) h (v :: d) (pair t1 t0)).rxBuf.read j = some b :=
      (congrArg _ (Nat.zero_add j).symm).trans (s.rxBuf.read_writeFrom 0 hj)
    have hrxLen : (s.exchanged (s.requestFrame p) h (v :: d) (pair t1 t0)).rxLen = h.length := BitVec.zero_add _
    have hne : (s.exchanged (s.requestFrame p) h (v :: d) (pair t1 t0)).rxLen ≠ 0#16 := by
      rintro hzero
      rw [← hrxLen, hzero] at hlen
      cases hlen
    rw [State.complete_of_status hne (hdata rfl)] at hrun
    exact ⟨s.requestFrame p, _, hp.encodeFrame, hrun, rfl, rfl, rfl, rfl, rfl, (congrArg _ hrxLen).trans hlen,
      fun _ _ => hdata, rfl, rfl, rfl, rfl, rfl, rfl⟩

end Sys2Proof.Machine
end
